-- ==== Sys2Proof/Word.lean ====
section
/-! DEFINITION. The word and the byte of the block. -/

namespace Sys2Proof

/-- A bus word or a bus address: 16 bits, arithmetic modulo 2^16 (00_scope.md R8, R11). -/
abbrev Word := BitVec 16

/-- A byte: of the flash image, of a CRC input, of a LUIGI table (20_memory.md R71). -/
abbrev Byte := BitVec 8

end Sys2Proof
end

