-- ==== Sys2Proof/Syntax.lean ====
section
/-! DEFINITION. The syntax: the 12 formats, one constructor of `Instr` per mnemonic of spec/opcode_table.json,
and the transactions the caller can ask for. -/

namespace Sys2Proof

/-- The 12 instruction formats (30_encoding.md R101). -/
inductive Format where
  | impl1opA
  | jsr
  | impl1opB
  | reg1op
  | gswd
  | nopSin
  | rot1op
  | reg2op
  | condBr
  | dir2op
  | ind2op
  | imm2op
  deriving DecidableEq, Repr

/-- The direction of a branch: w1[5], 0 forward, 1 backward (30_encoding.md R108). -/
inductive Direction where
  | forward
  | backward
  deriving DecidableEq, Repr

/-- One bus access to an address that both reads and writes reach: a read, forced or not, or a write of a
word. -/
inductive Access where
  | read (force : Bool)
  | write (v : Word)
  deriving DecidableEq, Repr

/-- The two copies of a map or permission entry (10_state.md R28). -/
inductive MapCopy where
  | active
  | resetDefault
  deriving DecidableEq, Repr

/-- The shift direction of a CRC instance (40_crc.md R140). -/
inductive CrcDir where
  | left
  | right
  deriving DecidableEq, Repr

/-- The rows of spec/opcode_table.json. A register operand is its number; a shift count is the count less
one (30_encoding.md R106); a jump target, a direct address and an immediate are the assembled 16-bit values
(30_encoding.md R104, R110); a branch is its direction and displacement (R108). A bus row holds what its
address fields leave free, and the written value. -/
inductive Instr where
  -- IMPL_1OP_A and IMPL_1OP_B, 42_decode_opcodes.md R201 to R207
  | hlt
  | sdbd
  | eis
  | dis
  | tci
  | clrc
  | setc
  -- REG_1OP, R208 to R213
  | incr (n : BitVec 3)
  | decr (n : BitVec 3)
  | comr (n : BitVec 3)
  | negr (n : BitVec 3)
  | adcr (n : BitVec 3)
  | rswd (n : BitVec 3)
  -- GSWD and NOP_SIN, R214 to R216
  | gswd (n : BitVec 2)
  | nop (b : BitVec 1)
  | sin (b : BitVec 1)
  -- ROT_1OP, R217 to R224
  | swap (n : BitVec 2) (k : BitVec 1)
  | sll (n : BitVec 2) (k : BitVec 1)
  | rlc (n : BitVec 2) (k : BitVec 1)
  | sllc (n : BitVec 2) (k : BitVec 1)
  | slr (n : BitVec 2) (k : BitVec 1)
  | sar (n : BitVec 2) (k : BitVec 1)
  | rrc (n : BitVec 2) (k : BitVec 1)
  | sarc (n : BitVec 2) (k : BitVec 1)
  -- REG_2OP, R226 to R232
  | movr (s d : BitVec 3)
  | tstr (n : BitVec 3)
  | addr (s d : BitVec 3)
  | subr (s d : BitVec 3)
  | cmpr (s d : BitVec 3)
  | andr (s d : BitVec 3)
  | xorr (s d : BitVec 3)
  -- JSR, R233 to R239
  | j (t : Word)
  | je (t : Word)
  | jd (t : Word)
  | jsr (rr : BitVec 2) (t : Word)
  | jsre (rr : BitVec 2) (t : Word)
  | jsrd (rr : BitVec 2) (t : Word)
  | jRsv (t : Word)
  | jsrRsv (rr : BitVec 2) (t : Word)
  -- COND_BR, R241 to R257
  | b (d : Direction) (disp : Word)
  | bc (d : Direction) (disp : Word)
  | bov (d : Direction) (disp : Word)
  | bpl (d : Direction) (disp : Word)
  | beq (d : Direction) (disp : Word)
  | blt (d : Direction) (disp : Word)
  | ble (d : Direction) (disp : Word)
  | busc (d : Direction) (disp : Word)
  | nopp (d : Direction) (disp : Word)
  | bnc (d : Direction) (disp : Word)
  | bnov (d : Direction) (disp : Word)
  | bmi (d : Direction) (disp : Word)
  | bneq (d : Direction) (disp : Word)
  | bge (d : Direction) (disp : Word)
  | bgt (d : Direction) (disp : Word)
  | besc (d : Direction) (disp : Word)
  | bext (d : Direction) (e : BitVec 4) (disp : Word)
  -- DIR_2OP, R258 to R264
  | mvo (r : BitVec 3) (ea : Word)
  | mvi (r : BitVec 3) (ea : Word)
  | add (r : BitVec 3) (ea : Word)
  | sub (r : BitVec 3) (ea : Word)
  | cmp (r : BitVec 3) (ea : Word)
  | and (r : BitVec 3) (ea : Word)
  | xor (r : BitVec 3) (ea : Word)
  -- IND_2OP, R265 to R271
  | mvoInd (m r : BitVec 3)
  | mviInd (m r : BitVec 3)
  | addInd (m r : BitVec 3)
  | subInd (m r : BitVec 3)
  | cmpInd (m r : BitVec 3)
  | andInd (m r : BitVec 3)
  | xorInd (m r : BitVec 3)
  -- IMM_2OP, R272 to R278
  | mvoi (r : BitVec 3) (imm : Word)
  | mvii (r : BitVec 3) (imm : Word)
  | addi (r : BitVec 3) (imm : Word)
  | subi (r : BitVec 3) (imm : Word)
  | cmpi (r : BitVec 3) (imm : Word)
  | andi (r : BitVec 3) (imm : Word)
  | xori (r : BitVec 3) (imm : Word)
  -- bus reads and writes, 43_locutus_bus.md, 44_jlp_window.md, 30_encoding.md R116 to R120
  | busRead (a : Word) (force : Bool)
  | busWrite (a v : Word)
  | bankswitch (chapter : BitVec 4) (half : BitVec 1) (v : Word)
  | pageFlip (chapter : BitVec 4) (v : Word)
  | mapSet (copy : MapCopy) (p : BitVec 8) (v : Word)
  | permSet (copy : MapCopy) (p : BitVec 8) (v : Word)
  | pflSet (chapter page : BitVec 4) (v : Word)
  | jlpUnlock (v : Word)
  | jlpLock (v : Word)
  | jlpSgAddr (v : Word)
  | jlpSgRow (v : Word)
  | jlpRamToFlash (v : Word)
  | jlpFlashToRam (v : Word)
  | jlpSectorErase (v : Word)
  | jlpMulSs (half : BitVec 1) (v : Word)
  | jlpMulSu (half : BitVec 1) (v : Word)
  | jlpMulUs (half : BitVec 1) (v : Word)
  | jlpMulUu (half : BitVec 1) (v : Word)
  | jlpDivSs (half : BitVec 1) (v : Word)
  | jlpDivUu (half : BitVec 1) (v : Word)
  | jlpRegWrite (i : BitVec 2) (v : Word)
  | jlpRegRead (i : BitVec 4) (force : Bool)
  | jlpExtReg (i : BitVec 4) (acc : Access)
  | jlpCrcFold (v : Word)
  | jlpCrcAccess (acc : Access)
  | jlpRandom (force : Bool)
  -- operation ports
  | decode (a : Word)
  | invalidate (lo hi : Word)
  | reset
  | tick (n : Nat)
  | crcUpdateByteRight (width poly crc : Nat) (x : Byte)
  | crcUpdateByteLeft (width poly crc : Nat) (x : Byte)
  | crcUpdateBlock (dir : CrcDir) (width poly crc : Nat) (xs : List Byte)
  | crc16Fold (crc v : Word)
  deriving DecidableEq, Repr

/-- A transaction the caller asks for (00_scope.md R7, 60_exceptions.md R415). A CP-1610 instruction is not
one: it is what a `decode` finds in memory. -/
inductive Request where
  | read (a : Word) (force : Bool)
  | write (a v : Word)
  | decode (a : Word)
  | invalidate (lo hi : Word)
  | reset
  | tick (n : Nat)
  | crcByte (dir : CrcDir) (width poly crc : Nat) (x : Byte)
  | crcBlock (dir : CrcDir) (width poly crc : Nat) (xs : List Byte)
  | crc16Fold (crc v : Word)
  deriving DecidableEq, Repr

end Sys2Proof
end

