-- ==== Sys2Proof/WellFormed.lean ====
section
/-! DEFINITION. Which terms of `Instr` stand for something the encodings can say. -/

namespace Sys2Proof

/-- A bus address whose reads have a row of their own in the opcode table: the JLP registers, the extended
registers, the CRC accumulator, the random number (30_encoding.md R119). -/
def readHasRow (a : Word) : Bool :=
  a.extractLsb' 4 12 == 0x9F8#12 || a.extractLsb' 4 12 == 0x9F9#12 || a == 0x9FFD#16 || a == 0x9FFE#16

/-- A bus address whose writes have a row of their own: bankswitch (R116), the mapper ranges (R118), the
last word of a chapter (R117), the JLP registers (R119). -/
def writeHasRow (a : Word) : Bool :=
  a.extractLsb' 5 11 == 2#11 || a.extractLsb' 9 7 == 8#7 || a.extractLsb' 9 7 == 9#7 ||
  a.extractLsb' 8 8 == 0x14#8 || a == 0x8025#16 || a == 0x8026#16 || a == 0x802D#16 || a == 0x802E#16 ||
  a == 0x802F#16 || a == 0x8033#16 || a == 0x8034#16 || a.extractLsb' 5 11 == 0x4FC#11 ||
  a == 0x9FFC#16 || a == 0x9FFD#16 || a.extractLsb' 0 12 == 0xFFF#12

/-- A CRC instance the engine admits: width 8 to 32 and a polynomial of that width (40_crc.md R140). -/
def crcInstanceOk (width poly : Nat) : Bool :=
  8 ≤ width && width ≤ 32 && poly < 2 ^ width

/-- A MOVR names two registers (42_decode_opcodes.md R226); a JSR saves in R4 to R6 (R236); an indirect form
points through R1 to R6 (R265); BUS_READ and BUS_WRITE stand for the addresses with no row of their own; a
CRC instance is one the engine admits. Every other term is well formed. -/
def Instr.wellFormed : Instr → Bool
  | .movr s d => s != d
  | .jsr rr _ | .jsre rr _ | .jsrd rr _ | .jsrRsv rr _ => rr != 3#2
  | .mvoInd m _ | .mviInd m _ | .addInd m _ | .subInd m _ | .cmpInd m _ | .andInd m _ | .xorInd m _ =>
    m != 0#3 && m != 7#3
  | .busRead a _ => !readHasRow a
  | .busWrite a _ => !writeHasRow a
  | .crcUpdateByteRight width poly _ _ | .crcUpdateByteLeft width poly _ _ => crcInstanceOk width poly
  | .crcUpdateBlock _ width poly _ _ => crcInstanceOk width poly
  | .hlt | .sdbd | .eis | .dis | .tci | .clrc | .setc | .incr _ | .decr _ | .comr _ | .negr _ | .adcr _
  | .rswd _ | .gswd _ | .nop _ | .sin _ | .swap _ _ | .sll _ _ | .rlc _ _ | .sllc _ _ | .slr _ _ | .sar _ _
  | .rrc _ _ | .sarc _ _ | .tstr _ | .addr _ _ | .subr _ _ | .cmpr _ _ | .andr _ _ | .xorr _ _ | .j _ | .je _
  | .jd _ | .jRsv _ | .b _ _ | .bc _ _ | .bov _ _ | .bpl _ _ | .beq _ _ | .blt _ _ | .ble _ _ | .busc _ _
  | .nopp _ _ | .bnc _ _ | .bnov _ _ | .bmi _ _ | .bneq _ _ | .bge _ _ | .bgt _ _ | .besc _ _ | .bext _ _ _
  | .mvo _ _ | .mvi _ _ | .add _ _ | .sub _ _ | .cmp _ _ | .and _ _ | .xor _ _ | .mvoi _ _ | .mvii _ _
  | .addi _ _ | .subi _ _ | .cmpi _ _ | .andi _ _ | .xori _ _ | .bankswitch _ _ _ | .pageFlip _ _
  | .mapSet _ _ _ | .permSet _ _ _ | .pflSet _ _ _ | .jlpUnlock _ | .jlpLock _ | .jlpSgAddr _ | .jlpSgRow _
  | .jlpRamToFlash _ | .jlpFlashToRam _ | .jlpSectorErase _ | .jlpMulSs _ _ | .jlpMulSu _ _ | .jlpMulUs _ _
  | .jlpMulUu _ _ | .jlpDivSs _ _ | .jlpDivUu _ _ | .jlpRegWrite _ _ | .jlpRegRead _ _ | .jlpExtReg _ _
  | .jlpCrcFold _ | .jlpCrcAccess _ | .jlpRandom _ | .decode _ | .invalidate _ _ | .reset | .tick _
  | .crc16Fold _ _ => true

end Sys2Proof
end

