-- ==== Sys2Proof/Decode.lean ====
section
/-! DEFINITION. Reading instruction words and transactions as `Instr`, and writing them back: the encodings of
30_encoding.md, part A (instruction words) and part B (bus addresses and values). -/

namespace Sys2Proof

/-- Why a list of words is no instruction: it is empty, its first word has bits above the opcode
(30_encoding.md R100), or words are missing. -/
inductive DecodeError where
  | noWord
  | weeds (w1 : Word)
  | truncated
  deriving DecidableEq, Repr

/-! ### Classification and length -/

/-- The opcode of a first word: its low 10 bits (30_encoding.md R100). -/
def opcodeOf (w1 : Word) : BitVec 10 := w1.extractLsb' 0 10

/-- A first word that is no instruction: bits 15 to 10 are not zero (41_decode.md R161). -/
def isWeeds (w1 : Word) : Bool := w1.extractLsb' 10 6 != 0#6

/-- The format of an opcode, by the ranges of 30_encoding.md R101. -/
def classify (w : BitVec 10) : Format :=
  let n := w.toNat
  if n < 0x004 then .impl1opA
  else if n < 0x005 then .jsr
  else if n < 0x008 then .impl1opB
  else if n < 0x030 then .reg1op
  else if n < 0x034 then .gswd
  else if n < 0x038 then .nopSin
  else if n < 0x040 then .reg1op
  else if n < 0x080 then .rot1op
  else if n < 0x200 then .reg2op
  else if n < 0x240 then .condBr
  else if w.extractLsb' 3 3 = 0#3 then .dir2op
  else if w.extractLsb' 3 3 = 7#3 then .imm2op
  else .ind2op

/-- One row of the priority list of 30_encoding.md R102: the bits that are fixed, their values, the
format. -/
structure PatternRow where
  mask : BitVec 10
  value : BitVec 10
  format : Format
  deriving DecidableEq, Repr

/-- The priority-ordered pattern list of 30_encoding.md R102. -/
def formatPatterns : List PatternRow :=
  [⟨0b1111111111#10, 0b0000000100#10, .jsr⟩,
   ⟨0b1111111100#10, 0b0000000000#10, .impl1opA⟩,
   ⟨0b1111111000#10, 0b0000000000#10, .impl1opB⟩,
   ⟨0b1111111100#10, 0b0000110000#10, .gswd⟩,
   ⟨0b1111111100#10, 0b0000110100#10, .nopSin⟩,
   ⟨0b1111000000#10, 0b0000000000#10, .reg1op⟩,
   ⟨0b1111000000#10, 0b0001000000#10, .rot1op⟩,
   ⟨0b1000000000#10, 0b0000000000#10, .reg2op⟩,
   ⟨0b1111000000#10, 0b1000000000#10, .condBr⟩,
   ⟨0b1000111000#10, 0b1000000000#10, .dir2op⟩,
   ⟨0b1000111000#10, 0b1000111000#10, .imm2op⟩,
   ⟨0b1000000000#10, 0b1000000000#10, .ind2op⟩]

/-- The format of the first pattern that an opcode matches (30_encoding.md R102). -/
def firstMatch (rows : List PatternRow) (w : BitVec 10) : Option Format :=
  (rows.find? fun r => w &&& r.mask == r.value).map PatternRow.format

/-- The length of a format without the SDBD lookback (30_encoding.md R101). -/
def formatLength : Format → Nat
  | .jsr => 3
  | .condBr | .dir2op | .imm2op => 2
  | .impl1opA | .impl1opB | .reg1op | .gswd | .nopSin | .rot1op | .reg2op | .ind2op => 1

/-- The length in words: one more for an immediate form after SDBD (30_encoding.md R111, 41_decode.md R164). -/
def lengthWith (sdbd : Bool) (f : Format) : Nat :=
  formatLength f + (if f = .imm2op ∧ sdbd then 1 else 0)

/-- The length of the instruction that starts with w1. -/
def instrLength (sdbd : Bool) (w1 : Word) : Nat := lengthWith sdbd (classify (opcodeOf w1))

/-! ### Operand fields of the later words -/

/-- The jump target (w2[7:2] << 10) | w3[9:0] (30_encoding.md R104). -/
def jumpTarget (w2 w3 : Word) : Word := w2.extractLsb' 2 6 ++ w3.extractLsb' 0 10

/-- The immediate after SDBD, w2[7:0] | (w3[7:0] << 8), low byte first (30_encoding.md R110). -/
def sdbdImmediate (w2 w3 : Word) : Word := w3.extractLsb' 0 8 ++ w2.extractLsb' 0 8

/-- w1[5] as a direction (30_encoding.md R108). -/
def directionOf (w1 : Word) : Direction := if w1.extractLsb' 5 1 = 1#1 then .backward else .forward

/-- The direction bit (30_encoding.md R108). -/
def Direction.bit : Direction → BitVec 1
  | .forward => 0#1
  | .backward => 1#1

/-! ### One function per format -/

/-- 30_encoding.md R103: w[2:0] selects the instruction. -/
def decodeImplied (w1 : Word) : Option Instr :=
  match (w1.extractLsb' 0 3).toNat with
  | 0 => some .hlt
  | 1 => some .sdbd
  | 2 => some .eis
  | 3 => some .dis
  | 5 => some .tci
  | 6 => some .clrc
  | 7 => some .setc
  | _ => none

/-- 30_encoding.md R105: w[5:3] is the operation, w[2:0] the register. -/
def decodeReg1 (w1 : Word) : Option Instr :=
  let n := w1.extractLsb' 0 3
  match (w1.extractLsb' 3 3).toNat with
  | 1 => some (.incr n)
  | 2 => some (.decr n)
  | 3 => some (.comr n)
  | 4 => some (.negr n)
  | 5 => some (.adcr n)
  | 7 => some (.rswd n)
  | _ => none

/-- 30_encoding.md R105: w[1] is 0 for NOP and 1 for SIN, w[0] is recorded. -/
def decodeNopSin (w1 : Word) : Instr :=
  if w1.extractLsb' 1 1 = 0#1 then .nop (w1.extractLsb' 0 1) else .sin (w1.extractLsb' 0 1)

/-- 30_encoding.md R106: w[5:3] is the operation, w[2] the count less one, w[1:0] the register. -/
def decodeRotate (w1 : Word) : Option Instr :=
  let n := w1.extractLsb' 0 2
  let k := w1.extractLsb' 2 1
  match (w1.extractLsb' 3 3).toNat with
  | 0 => some (.swap n k)
  | 1 => some (.sll n k)
  | 2 => some (.rlc n k)
  | 3 => some (.sllc n k)
  | 4 => some (.slr n k)
  | 5 => some (.sar n k)
  | 6 => some (.rrc n k)
  | 7 => some (.sarc n k)
  | _ => none

/-- 30_encoding.md R107: w[8:6] is the operation, w[5:3] the source, w[2:0] the destination; a MOVR of a
register to itself is TSTR (42_decode_opcodes.md R227). -/
def decodeReg2 (w1 : Word) : Option Instr :=
  let s := w1.extractLsb' 3 3
  let d := w1.extractLsb' 0 3
  match (w1.extractLsb' 6 3).toNat with
  | 2 => some (if s = d then .tstr d else .movr s d)
  | 3 => some (.addr s d)
  | 4 => some (.subr s d)
  | 5 => some (.cmpr s d)
  | 6 => some (.andr s d)
  | 7 => some (.xorr s d)
  | _ => none

/-- 30_encoding.md R104, 41_decode.md R167: rr = 3 is the J family, ii selects the variant. -/
def decodeJsr (w2 w3 : Word) : Option Instr :=
  let rr := w2.extractLsb' 8 2
  let t := jumpTarget w2 w3
  match (w2.extractLsb' 0 2).toNat with
  | 0 => some (if rr = 3#2 then .j t else .jsr rr t)
  | 1 => some (if rr = 3#2 then .je t else .jsre rr t)
  | 2 => some (if rr = 3#2 then .jd t else .jsrd rr t)
  | 3 => some (if rr = 3#2 then .jRsv t else .jsrRsv rr t)
  | _ => none

/-- 30_encoding.md R108: w1[4] is x, w1[3:0] the condition, w1[5] the direction, w2 the displacement. -/
def decodeBranch (w1 w2 : Word) : Option Instr :=
  let d := directionOf w1
  if w1.extractLsb' 4 1 = 1#1 then some (.bext d (w1.extractLsb' 0 4) w2)
  else match (w1.extractLsb' 0 4).toNat with
  | 0 => some (.b d w2)
  | 1 => some (.bc d w2)
  | 2 => some (.bov d w2)
  | 3 => some (.bpl d w2)
  | 4 => some (.beq d w2)
  | 5 => some (.blt d w2)
  | 6 => some (.ble d w2)
  | 7 => some (.busc d w2)
  | 8 => some (.nopp d w2)
  | 9 => some (.bnc d w2)
  | 10 => some (.bnov d w2)
  | 11 => some (.bmi d w2)
  | 12 => some (.bneq d w2)
  | 13 => some (.bge d w2)
  | 14 => some (.bgt d w2)
  | 15 => some (.besc d w2)
  | _ => none

/-- 30_encoding.md R109, direct: w1[8:6] is the operation, w1[2:0] the register, w2 the address. -/
def decodeDirect (w1 w2 : Word) : Option Instr :=
  let r := w1.extractLsb' 0 3
  match (w1.extractLsb' 6 3).toNat with
  | 1 => some (.mvo r w2)
  | 2 => some (.mvi r w2)
  | 3 => some (.add r w2)
  | 4 => some (.sub r w2)
  | 5 => some (.cmp r w2)
  | 6 => some (.and r w2)
  | 7 => some (.xor r w2)
  | _ => none

/-- 30_encoding.md R109, indirect: w1[5:3] is the pointer register. -/
def decodeIndirect (w1 : Word) : Option Instr :=
  let m := w1.extractLsb' 3 3
  let r := w1.extractLsb' 0 3
  match (w1.extractLsb' 6 3).toNat with
  | 1 => some (.mvoInd m r)
  | 2 => some (.mviInd m r)
  | 3 => some (.addInd m r)
  | 4 => some (.subInd m r)
  | 5 => some (.cmpInd m r)
  | 6 => some (.andInd m r)
  | 7 => some (.xorInd m r)
  | _ => none

/-- 30_encoding.md R109, immediate, with the immediate of R110. -/
def decodeImmediate (w1 imm : Word) : Option Instr :=
  let r := w1.extractLsb' 0 3
  match (w1.extractLsb' 6 3).toNat with
  | 1 => some (.mvoi r imm)
  | 2 => some (.mvii r imm)
  | 3 => some (.addi r imm)
  | 4 => some (.subi r imm)
  | 5 => some (.cmpi r imm)
  | 6 => some (.andi r imm)
  | 7 => some (.xori r imm)
  | _ => none

/-! ### The decoder of instruction words -/

/-- An instruction read from a format's function, with the words after it. -/
def orTruncated (o : Option Instr) (rest : List Word) : Except DecodeError (Instr × List Word) :=
  match o with
  | some i => .ok (i, rest)
  | none => .error .truncated

/-- The instruction at the head of a list of words, given whether the word before it is SDBD, and the words
after it (41_decode.md R163 to R166, 30_encoding.md R101). -/
def decodeWords (sdbd : Bool) : List Word → Except DecodeError (Instr × List Word)
  | [] => .error .noWord
  | w1 :: rest =>
    if isWeeds w1 then .error (.weeds w1)
    else match classify (opcodeOf w1), rest with
    | .impl1opA, _ | .impl1opB, _ => orTruncated (decodeImplied w1) rest
    | .reg1op, _ => orTruncated (decodeReg1 w1) rest
    | .gswd, _ => .ok (.gswd (w1.extractLsb' 0 2), rest)
    | .nopSin, _ => .ok (decodeNopSin w1, rest)
    | .rot1op, _ => orTruncated (decodeRotate w1) rest
    | .reg2op, _ => orTruncated (decodeReg2 w1) rest
    | .ind2op, _ => orTruncated (decodeIndirect w1) rest
    | .condBr, w2 :: rest => orTruncated (decodeBranch w1 w2) rest
    | .dir2op, w2 :: rest => orTruncated (decodeDirect w1 w2) rest
    | .jsr, w2 :: w3 :: rest => orTruncated (decodeJsr w2 w3) rest
    | .imm2op, w2 :: rest =>
      if sdbd then
        match rest with
        | w3 :: rest => orTruncated (decodeImmediate w1 (sdbdImmediate w2 w3)) rest
        | [] => .error .truncated
      else orTruncated (decodeImmediate w1 w2) rest
    | _, _ => .error .truncated

/-! ### The encoder of instruction words -/

/-- A first word whose low 3 bits are a register (30_encoding.md R105, R109). -/
def wordReg (top : BitVec 13) (n : BitVec 3) : Word := top ++ n

/-- A ROT_1OP word (30_encoding.md R106). -/
def wordRotate (op : BitVec 3) (k : BitVec 1) (n : BitVec 2) : Word := 1#10 ++ op ++ k ++ n

/-- A word with an operation and two register fields: REG_2OP with top bit 0, the memory formats with top
bit 1 (30_encoding.md R107, R109). -/
def wordTwo (top : BitVec 1) (op : BitVec 3) (s d : BitVec 3) : Word := 0#6 ++ top ++ op ++ s ++ d

/-- The first word of a branch (30_encoding.md R108). -/
def wordBranch (d : Direction) (x : BitVec 1) (cccc : BitVec 4) : Word := 8#10 ++ d.bit ++ x ++ cccc

/-- The three words of the JSR format (30_encoding.md R104), the ignored bits zero. -/
def wordsJsr (rr : BitVec 2) (ii : BitVec 2) (t : Word) : List Word :=
  [0x0004#16, 0#6 ++ rr ++ t.extractLsb' 10 6 ++ ii, 0#6 ++ t.extractLsb' 0 10]

/-- The words of an immediate form (30_encoding.md R109, R110), the ignored bits zero. -/
def wordsImmediate (sdbd : Bool) (op r : BitVec 3) (imm : Word) : List Word :=
  let w1 := wordTwo 1#1 op 7#3 r
  if sdbd then [w1, 0#8 ++ imm.extractLsb' 0 8, 0#8 ++ imm.extractLsb' 8 8] else [w1, imm]

/-- The words of an instruction, given whether the word before it is SDBD; none for a term that is no
instruction of the CP-1610. -/
def encodeWords (sdbd : Bool) : Instr → Option (List Word)
  | .hlt => some [0x0000#16]
  | .sdbd => some [0x0001#16]
  | .eis => some [0x0002#16]
  | .dis => some [0x0003#16]
  | .tci => some [0x0005#16]
  | .clrc => some [0x0006#16]
  | .setc => some [0x0007#16]
  | .incr n => some [wordReg 1#13 n]
  | .decr n => some [wordReg 2#13 n]
  | .comr n => some [wordReg 3#13 n]
  | .negr n => some [wordReg 4#13 n]
  | .adcr n => some [wordReg 5#13 n]
  | .rswd n => some [wordReg 7#13 n]
  | .gswd n => some [wordReg 6#13 (0#1 ++ n)]
  | .nop x => some [wordReg 6#13 (2#2 ++ x)]
  | .sin x => some [wordReg 6#13 (3#2 ++ x)]
  | .swap n k => some [wordRotate 0#3 k n]
  | .sll n k => some [wordRotate 1#3 k n]
  | .rlc n k => some [wordRotate 2#3 k n]
  | .sllc n k => some [wordRotate 3#3 k n]
  | .slr n k => some [wordRotate 4#3 k n]
  | .sar n k => some [wordRotate 5#3 k n]
  | .rrc n k => some [wordRotate 6#3 k n]
  | .sarc n k => some [wordRotate 7#3 k n]
  | .movr s d => some [wordTwo 0#1 2#3 s d]
  | .tstr n => some [wordTwo 0#1 2#3 n n]
  | .addr s d => some [wordTwo 0#1 3#3 s d]
  | .subr s d => some [wordTwo 0#1 4#3 s d]
  | .cmpr s d => some [wordTwo 0#1 5#3 s d]
  | .andr s d => some [wordTwo 0#1 6#3 s d]
  | .xorr s d => some [wordTwo 0#1 7#3 s d]
  | .j t => some (wordsJsr 3#2 0#2 t)
  | .je t => some (wordsJsr 3#2 1#2 t)
  | .jd t => some (wordsJsr 3#2 2#2 t)
  | .jsr rr t => some (wordsJsr rr 0#2 t)
  | .jsre rr t => some (wordsJsr rr 1#2 t)
  | .jsrd rr t => some (wordsJsr rr 2#2 t)
  | .jRsv t => some (wordsJsr 3#2 3#2 t)
  | .jsrRsv rr t => some (wordsJsr rr 3#2 t)
  | .b d disp => some [wordBranch d 0#1 0#4, disp]
  | .bc d disp => some [wordBranch d 0#1 1#4, disp]
  | .bov d disp => some [wordBranch d 0#1 2#4, disp]
  | .bpl d disp => some [wordBranch d 0#1 3#4, disp]
  | .beq d disp => some [wordBranch d 0#1 4#4, disp]
  | .blt d disp => some [wordBranch d 0#1 5#4, disp]
  | .ble d disp => some [wordBranch d 0#1 6#4, disp]
  | .busc d disp => some [wordBranch d 0#1 7#4, disp]
  | .nopp d disp => some [wordBranch d 0#1 8#4, disp]
  | .bnc d disp => some [wordBranch d 0#1 9#4, disp]
  | .bnov d disp => some [wordBranch d 0#1 10#4, disp]
  | .bmi d disp => some [wordBranch d 0#1 11#4, disp]
  | .bneq d disp => some [wordBranch d 0#1 12#4, disp]
  | .bge d disp => some [wordBranch d 0#1 13#4, disp]
  | .bgt d disp => some [wordBranch d 0#1 14#4, disp]
  | .besc d disp => some [wordBranch d 0#1 15#4, disp]
  | .bext d e disp => some [wordBranch d 1#1 e, disp]
  | .mvo r ea => some [wordTwo 1#1 1#3 0#3 r, ea]
  | .mvi r ea => some [wordTwo 1#1 2#3 0#3 r, ea]
  | .add r ea => some [wordTwo 1#1 3#3 0#3 r, ea]
  | .sub r ea => some [wordTwo 1#1 4#3 0#3 r, ea]
  | .cmp r ea => some [wordTwo 1#1 5#3 0#3 r, ea]
  | .and r ea => some [wordTwo 1#1 6#3 0#3 r, ea]
  | .xor r ea => some [wordTwo 1#1 7#3 0#3 r, ea]
  | .mvoInd m r => some [wordTwo 1#1 1#3 m r]
  | .mviInd m r => some [wordTwo 1#1 2#3 m r]
  | .addInd m r => some [wordTwo 1#1 3#3 m r]
  | .subInd m r => some [wordTwo 1#1 4#3 m r]
  | .cmpInd m r => some [wordTwo 1#1 5#3 m r]
  | .andInd m r => some [wordTwo 1#1 6#3 m r]
  | .xorInd m r => some [wordTwo 1#1 7#3 m r]
  | .mvoi r imm => some (wordsImmediate sdbd 1#3 r imm)
  | .mvii r imm => some (wordsImmediate sdbd 2#3 r imm)
  | .addi r imm => some (wordsImmediate sdbd 3#3 r imm)
  | .subi r imm => some (wordsImmediate sdbd 4#3 r imm)
  | .cmpi r imm => some (wordsImmediate sdbd 5#3 r imm)
  | .andi r imm => some (wordsImmediate sdbd 6#3 r imm)
  | .xori r imm => some (wordsImmediate sdbd 7#3 r imm)
  | .busRead _ _ | .busWrite _ _ | .bankswitch _ _ _ | .pageFlip _ _ | .mapSet _ _ _ | .permSet _ _ _
  | .pflSet _ _ _ | .jlpUnlock _ | .jlpLock _ | .jlpSgAddr _ | .jlpSgRow _ | .jlpRamToFlash _
  | .jlpFlashToRam _ | .jlpSectorErase _ | .jlpMulSs _ _ | .jlpMulSu _ _ | .jlpMulUs _ _ | .jlpMulUu _ _
  | .jlpDivSs _ _ | .jlpDivUu _ _ | .jlpRegWrite _ _ | .jlpRegRead _ _ | .jlpExtReg _ _ | .jlpCrcFold _
  | .jlpCrcAccess _ | .jlpRandom _ | .decode _ | .invalidate _ _ | .reset | .tick _
  | .crcUpdateByteRight _ _ _ _ | .crcUpdateByteLeft _ _ _ _ | .crcUpdateBlock _ _ _ _ _
  | .crc16Fold _ _ => none

/-! ### Bus addresses of the command rows (30_encoding.md part B) -/

/-- $0040-$005F: chapter a[3:0], half a[4] (30_encoding.md R116). -/
def bankswitchAddr (chapter : BitVec 4) (half : BitVec 1) : Word := 2#11 ++ half ++ chapter

/-- The last word of a chapter (30_encoding.md R117). -/
def chapterEnd (chapter : BitVec 4) : Word := chapter ++ 0xFFF#12

/-- a[8] of a mapper address: 0 the active copy, 1 the reset copy (30_encoding.md R118). -/
def MapCopy.bit : MapCopy → BitVec 1
  | .active => 0#1
  | .resetDefault => 1#1

/-- The copy that a[8] selects (30_encoding.md R118). -/
def copyOf (x : BitVec 1) : MapCopy := if x = 0#1 then .active else .resetDefault

/-- $1000-$11FF (30_encoding.md R118). -/
def mapSetAddr (copy : MapCopy) (p : BitVec 8) : Word := 8#7 ++ copy.bit ++ p

/-- $1200-$13FF (30_encoding.md R118). -/
def permSetAddr (copy : MapCopy) (p : BitVec 8) : Word := 9#7 ++ copy.bit ++ p

/-- $1400-$14FF (30_encoding.md R118). -/
def pflSetAddr (chapter page : BitVec 4) : Word := 0x14#8 ++ chapter ++ page

/-- $9F80 + 2k + half, the two registers of operand pair k (44_jlp_window.md R357). -/
def pairAddr (k : BitVec 3) (half : BitVec 1) : Word := 0x9F8#12 ++ k ++ half

/-- $9F80 + i (10_state.md R37). -/
def jlpRegAddr (i : BitVec 4) : Word := 0x9F8#12 ++ i

/-- $9F90 + i (10_state.md R43). -/
def extRegAddr (i : BitVec 4) : Word := 0x9F9#12 ++ i

/-! ### Transactions -/

/-- The row of a bus read (30_encoding.md R119, read column). -/
def decodeRead (a : Word) (force : Bool) : Instr :=
  if a.extractLsb' 4 12 = 0x9F8#12 then .jlpRegRead (a.extractLsb' 0 4) force
  else if a.extractLsb' 4 12 = 0x9F9#12 then .jlpExtReg (a.extractLsb' 0 4) (.read force)
  else if a = 0x9FFD#16 then .jlpCrcAccess (.read force)
  else if a = 0x9FFE#16 then .jlpRandom force
  else .busRead a force

/-- The row of a write to the JLP general registers $9F80-$9F8F (30_encoding.md R119, write column). -/
def decodeJlpRegWrite (a v : Word) : Instr :=
  let half := a.extractLsb' 0 1
  match (a.extractLsb' 1 3).toNat with
  | 0 => .jlpMulSs half v
  | 1 => .jlpMulSu half v
  | 2 => .jlpMulUs half v
  | 3 => .jlpMulUu half v
  | 4 => .jlpDivSs half v
  | 5 => .jlpDivUu half v
  | _ => .jlpRegWrite (a.extractLsb' 0 2) v

/-- The row of a bus write, by its address alone (30_encoding.md R116 to R120). -/
def decodeWrite (a v : Word) : Instr :=
  if a.extractLsb' 5 11 = 2#11 then .bankswitch (a.extractLsb' 0 4) (a.extractLsb' 4 1) v
  else if a.extractLsb' 9 7 = 8#7 then .mapSet (copyOf (a.extractLsb' 8 1)) (a.extractLsb' 0 8) v
  else if a.extractLsb' 9 7 = 9#7 then .permSet (copyOf (a.extractLsb' 8 1)) (a.extractLsb' 0 8) v
  else if a.extractLsb' 8 8 = 0x14#8 then .pflSet (a.extractLsb' 4 4) (a.extractLsb' 0 4) v
  else if a = 0x8025#16 then .jlpSgAddr v
  else if a = 0x8026#16 then .jlpSgRow v
  else if a = 0x802D#16 then .jlpRamToFlash v
  else if a = 0x802E#16 then .jlpFlashToRam v
  else if a = 0x802F#16 then .jlpSectorErase v
  else if a = 0x8033#16 then .jlpUnlock v
  else if a = 0x8034#16 then .jlpLock v
  else if a.extractLsb' 4 12 = 0x9F8#12 then decodeJlpRegWrite a v
  else if a.extractLsb' 4 12 = 0x9F9#12 then .jlpExtReg (a.extractLsb' 0 4) (.write v)
  else if a = 0x9FFC#16 then .jlpCrcFold v
  else if a = 0x9FFD#16 then .jlpCrcAccess (.write v)
  else if a.extractLsb' 0 12 = 0xFFF#12 then .pageFlip (a.extractLsb' 12 4) v
  else .busWrite a v

/-- The row of the opcode table that a transaction is. -/
def decodeRequest : Request → Instr
  | .read a force => decodeRead a force
  | .write a v => decodeWrite a v
  | .decode a => .decode a
  | .invalidate lo hi => .invalidate lo hi
  | .reset => .reset
  | .tick n => .tick n
  | .crcByte .right width poly crc x => .crcUpdateByteRight width poly crc x
  | .crcByte .left width poly crc x => .crcUpdateByteLeft width poly crc x
  | .crcBlock dir width poly crc xs => .crcUpdateBlock dir width poly crc xs
  | .crc16Fold crc v => .crc16Fold crc v

/-- An access to an address that reads and writes reach, as a transaction. -/
def accessRequest (a : Word) : Access → Request
  | .read force => .read a force
  | .write v => .write a v

/-- The transaction that a bus row or an operation port stands for; none for a CP-1610 instruction, which is
carried by words. -/
def encodeRequest : Instr → Option Request
  | .busRead a force => some (.read a force)
  | .busWrite a v => some (.write a v)
  | .bankswitch c h v => some (.write (bankswitchAddr c h) v)
  | .pageFlip c v => some (.write (chapterEnd c) v)
  | .mapSet copy p v => some (.write (mapSetAddr copy p) v)
  | .permSet copy p v => some (.write (permSetAddr copy p) v)
  | .pflSet c g v => some (.write (pflSetAddr c g) v)
  | .jlpUnlock v => some (.write 0x8033#16 v)
  | .jlpLock v => some (.write 0x8034#16 v)
  | .jlpSgAddr v => some (.write 0x8025#16 v)
  | .jlpSgRow v => some (.write 0x8026#16 v)
  | .jlpRamToFlash v => some (.write 0x802D#16 v)
  | .jlpFlashToRam v => some (.write 0x802E#16 v)
  | .jlpSectorErase v => some (.write 0x802F#16 v)
  | .jlpMulSs h v => some (.write (pairAddr 0#3 h) v)
  | .jlpMulSu h v => some (.write (pairAddr 1#3 h) v)
  | .jlpMulUs h v => some (.write (pairAddr 2#3 h) v)
  | .jlpMulUu h v => some (.write (pairAddr 3#3 h) v)
  | .jlpDivSs h v => some (.write (pairAddr 4#3 h) v)
  | .jlpDivUu h v => some (.write (pairAddr 5#3 h) v)
  | .jlpRegWrite i v => some (.write (jlpRegAddr (3#2 ++ i)) v)
  | .jlpRegRead i force => some (.read (jlpRegAddr i) force)
  | .jlpExtReg i acc => some (accessRequest (extRegAddr i) acc)
  | .jlpCrcFold v => some (.write 0x9FFC#16 v)
  | .jlpCrcAccess acc => some (accessRequest 0x9FFD#16 acc)
  | .jlpRandom force => some (.read 0x9FFE#16 force)
  | .decode a => some (.decode a)
  | .invalidate lo hi => some (.invalidate lo hi)
  | .reset => some .reset
  | .tick n => some (.tick n)
  | .crcUpdateByteRight width poly crc x => some (.crcByte .right width poly crc x)
  | .crcUpdateByteLeft width poly crc x => some (.crcByte .left width poly crc x)
  | .crcUpdateBlock dir width poly crc xs => some (.crcBlock dir width poly crc xs)
  | .crc16Fold crc v => some (.crc16Fold crc v)
  | .hlt | .sdbd | .eis | .dis | .tci | .clrc | .setc | .incr _ | .decr _ | .comr _ | .negr _ | .adcr _
  | .rswd _ | .gswd _ | .nop _ | .sin _ | .swap _ _ | .sll _ _ | .rlc _ _ | .sllc _ _ | .slr _ _ | .sar _ _
  | .rrc _ _ | .sarc _ _ | .movr _ _ | .tstr _ | .addr _ _ | .subr _ _ | .cmpr _ _ | .andr _ _ | .xorr _ _
  | .j _ | .je _ | .jd _ | .jsr _ _ | .jsre _ _ | .jsrd _ _ | .jRsv _ | .jsrRsv _ _
  | .b _ _ | .bc _ _ | .bov _ _ | .bpl _ _ | .beq _ _ | .blt _ _ | .ble _ _ | .busc _ _ | .nopp _ _
  | .bnc _ _ | .bnov _ _ | .bmi _ _ | .bneq _ _ | .bge _ _ | .bgt _ _ | .besc _ _ | .bext _ _ _
  | .mvo _ _ | .mvi _ _ | .add _ _ | .sub _ _ | .cmp _ _ | .and _ _ | .xor _ _
  | .mvoInd _ _ | .mviInd _ _ | .addInd _ _ | .subInd _ _ | .cmpInd _ _ | .andInd _ _ | .xorInd _ _
  | .mvoi _ _ | .mvii _ _ | .addi _ _ | .subi _ _ | .cmpi _ _ | .andi _ _ | .xori _ _ => none

/-! ### The rows of the opcode table as words -/

/-- The k-th 16-bit word of a number, the first word in its low bits. -/
def tableWord (nbits w k : Nat) : Word := BitVec.ofNat 16 ((w % 2 ^ nbits) >>> (16 * k))

/-- A table row that is matched on a bus address, not on an instruction word (log 13): the first word is the
address, the second the value. The write row of the address, else its read row, else none. -/
def tableBusRequest (a v : Word) : Option Request :=
  if writeHasRow a then some (.write a v)
  else if readHasRow a then some (.read a false)
  else none

/-- The instruction the decoder reads from an instruction whose bits are w, as spec/opcode_table.json numbers
them: an instruction word where the first word is one (not after SDBD), else a bus row (log 13). -/
def decodeTableWord (nbits w : Nat) : Option Instr :=
  match decodeWords false [tableWord nbits w 0, tableWord nbits w 1, tableWord nbits w 2] with
  | .ok (i, _) => some i
  | .error _ => (tableBusRequest (tableWord nbits w 0) (tableWord nbits w 1)).map decodeRequest

end Sys2Proof
end

