-- ==== Sys2Proof/Config.lean ====
section
/-! DEFINITION. What an implementation fixes (the parameters of 00_scope.md R9) and the free values: opaque
constants, of which nothing can be proved. -/

namespace Sys2Proof

/-- The JLP accelerator mode taken from the feature flags (00_scope.md R9, 44_jlp_window.md R350). The bit
positions behind it are not in the source, so it is a parameter (92_eei_decisions.md D34). -/
inductive JlpMode where
  | disabled
  | off
  | accelOn
  | accelFlashOn
  deriving DecidableEq, Repr

/-- A parameter that is a function: the spec's default, or another function, which is then a free value
(log 9). -/
inductive FunctionParam where
  | specDefault
  | other
  deriving DecidableEq, Repr

/-- The parameters with no default in the spec: an operation that needs one with no value is refused with its
name (60_exceptions.md R406). -/
inductive OpenParam where
  | flashRowWords
  | flashStartRow
  | flashEndRow
  | tickDecrement
  | jlpLockValue
  deriving DecidableEq, Repr

/-- The parameters the source leaves open (00_scope.md R9), each an argument of the model. LTO_MAPPER is not
here: it is feature flag 32 (10_state.md R32). -/
structure Params where
  /-- HOOK_PRESENT (D13). -/
  hookPresent : Bool
  /-- EXT_REGS_WIRED (D35). -/
  extRegsWired : Bool
  /-- JLP_MODE (D34). -/
  jlpMode : JlpMode
  /-- PFL_SIG_MASK (D18). -/
  pflSigMask : Word
  /-- PFL_PACK (D29). -/
  pflPack : FunctionParam
  /-- NARROW_STORE (D17). -/
  narrowStore : FunctionParam
  /-- JLP_LOCK_VALUE (D27): not supplied, or a supplied value, which is "any" (none) or one value. -/
  jlpLockValue : Option (Option Word)
  /-- FLASH_ROW_WORDS (D42). -/
  flashRowWords : Option Nat
  /-- FLASH_START_ROW (D42). -/
  flashStartRow : Option Nat
  /-- FLASH_END_ROW (D42). -/
  flashEndRow : Option Nat
  /-- TICK_DECREMENT (D25). -/
  tickDecrement : Option Nat
  deriving DecidableEq, Repr

/-- The state of the pseudo-random generator after a mix: the n-th draw, the old state, the bus address
(10_state.md R40, 92_eei_decisions.md D40). Free value (log 4). -/
opaque Config.rngMix : Nat → Nat → Word → Nat

/-- `rng_next`: the n-th draw, the old state; the word drawn and the state after it (44_jlp_window.md R362).
Free value (log 4). -/
opaque Config.rngNext : Nat → Nat → Word × Nat

/-- The n-th draw of a 16-bit word (44_jlp_window.md R354, R355). Free value (log 4). -/
opaque Config.drawWord : Nat → Word

/-- The n-th draw of a number, reduced to the range the spec gives by the operation that takes it
(44_jlp_window.md R369). Free value (log 4). -/
opaque Config.drawNat : Nat → Nat

/-- NARROW_STORE when it is not the spec's default (92_eei_decisions.md D17, log 9). -/
opaque Config.narrowStoreOther : Word → Word

/-- The map half of PFL_PACK when it is not the spec's default (92_eei_decisions.md D29, log 9). -/
opaque Config.pflMapOther : Word → BitVec 12

/-- The permission half of PFL_PACK when it is not the spec's default (92_eei_decisions.md D29, log 9). -/
opaque Config.pflPermOther : Word → BitVec 4

/-- The value supplied at reset for JLP_LOCK_VALUE (log 8). -/
opaque Config.jlpLockValue : Option Word

/-- The value supplied at reset for FLASH_ROW_WORDS (log 8). -/
opaque Config.flashRowWords : Nat

/-- The value supplied at reset for FLASH_START_ROW (log 8). -/
opaque Config.flashStartRow : Nat

/-- The value supplied at reset for FLASH_END_ROW (log 8). -/
opaque Config.flashEndRow : Nat

/-- The value supplied at reset for TICK_DECREMENT (log 8). -/
opaque Config.tickDecrement : Nat

/-- The parameters of `State.reset`: the defaults of 00_scope.md R9, and free values for the open ones. -/
def Params.atReset : Params where
  hookPresent := false
  extRegsWired := false
  jlpMode := .disabled
  pflSigMask := 0x0FF0
  pflPack := .specDefault
  narrowStore := .specDefault
  jlpLockValue := some Config.jlpLockValue
  flashRowWords := some Config.flashRowWords
  flashStartRow := some Config.flashStartRow
  flashEndRow := some Config.flashEndRow
  tickDecrement := some Config.tickDecrement

end Sys2Proof
end

