-- ==== Sys2Proof/Machine/State.lean ====
section
/-! DEFINITION. The state of the block as plain data: the tables, the decode cache, the store, the JLP, the
fault latch, the parameters, and the model's own fields; the reasons a step can stop; the machine after reset. -/

namespace Sys2Proof.Machine

/-! ### Sparse tables -/

/-- A table over natural-number keys: the listed entries, addresses strictly rising, no entry equal to the
value an unlisted key reads as (log 16). -/
abbrev Table (α : Type) := List (Nat × α)

/-- The 512K-word store of 16-bit words (10_state.md R26). An unlisted word reads as `ramDefault`. -/
abbrev Memory := Table Word

/-- What an unlisted word of the store reads as: every word is 0x0000 at construction (70_reset_and_hazards.md
R431). -/
abbrev ramDefault : Word := 0#16

/-- What an unlisted byte of the save-game flash reads as: the erased byte (44_jlp_window.md R370). -/
abbrev flashDefault : Byte := 0xFF#8

/-- The number of words of the store (00_scope.md R8). -/
abbrev ramWords : Nat := 0x80000

/-- The canonical form of a table: keys strictly rising, no listed default, keys below the bound. -/
abbrev Table.wf {α : Type} (d : α) (bound : Nat) (t : Table α) : Prop :=
  (t.map Prod.fst).Pairwise (· < ·) ∧ (∀ e ∈ t, e.2 ≠ d) ∧ (∀ e ∈ t, e.1 < bound)

/-- The canonical form of the store. -/
abbrev Memory.wf (m : Memory) : Prop := Table.wf ramDefault ramWords m

/-! ### Decoded records -/

/-- The mnemonics of the implied formats (30_encoding.md R103). -/
inductive ImpliedOp where
  | hlt | sdbd | eis | dis | tci | clrc | setc
  deriving DecidableEq, Repr

/-- The eight bindings of the JSR format (41_decode.md R167). -/
inductive JumpOp where
  | j | je | jd | jRsv | jsr | jsre | jsrd | jsrRsv
  deriving DecidableEq, Repr

/-- The mnemonics of REG_1OP (30_encoding.md R105). -/
inductive Reg1Op where
  | incr | decr | comr | negr | adcr | rswd
  deriving DecidableEq, Repr

/-- The mnemonics of NOP_SIN (30_encoding.md R105). -/
inductive NopSinOp where
  | nop | sin
  deriving DecidableEq, Repr

/-- The mnemonics of ROT_1OP (30_encoding.md R106). -/
inductive RotateOp where
  | swap | sll | rlc | sllc | slr | sar | rrc | sarc
  deriving DecidableEq, Repr

/-- The operation selectors of REG_2OP, TSTR among them (41_decode.md R168). -/
inductive Reg2Op where
  | movr | tstr | addr | subr | cmpr | andr | xorr
  deriving DecidableEq, Repr

/-- The mnemonics of COND_BR (30_encoding.md R108). -/
inductive BranchOp where
  | b | bc | bov | bpl | beq | blt | ble | busc | nopp | bnc | bnov | bmi | bneq | bge | bgt | besc | bext
  deriving DecidableEq, Repr

/-- The operations of the three memory formats (30_encoding.md R109); the format says whether the mnemonic is
MVO, MVO@ or MVOI. -/
inductive MemOp where
  | mvo | mvi | add | sub | cmp | and | xor
  deriving DecidableEq, Repr

/-- The execute-binding selector, one shape for each format (41_decode.md R167 to R169). -/
inductive Binding where
  | implA (m : ImpliedOp)
  | implB (m : ImpliedOp)
  | jsr (m : JumpOp)
  | reg1op (m : Reg1Op)
  | gswd
  | nopSin (m : NopSinOp)
  | rot1op (m : RotateOp)
  | reg2op (m : Reg2Op) (pcdst pcsrc : Bool)
  | condBr (m : BranchOp) (x : BitVec 1) (cccc : BitVec 4)
  | dir2op (m : MemOp)
  | ind2op (m : MemOp) (sdbd : Bool)
  | imm2op (m : MemOp) (sdbd : Bool)
  deriving DecidableEq, Repr

/-- A decoded record (10_state.md R23). -/
structure DecodedRecord where
  /-- The address it was decoded at. -/
  addr : Word
  /-- The length in words. -/
  len : Nat
  /-- The raw words. -/
  words : List Word
  fmt : Format
  op : Nat
  reg0 : Fin 8
  reg1 : Fin 8
  imm0 : Word
  imm1 : Word
  /-- `prev_is_sdbd` of this decode. -/
  sdbd : Bool
  binding : Binding
  /-- The word fetched at `addr - 1`. -/
  lookback : Word
  deriving DecidableEq, Repr

/-! ### Outcomes -/

/-- The fault records of the latch (60_exceptions.md R401, R402). -/
inductive FaultRecord where
  /-- WeedsFault: the decode address and the first word. -/
  | weeds (address w1 : Word)
  /-- RamRangeFault: the physical address. -/
  | ramRange (pa : Nat)
  deriving DecidableEq, Repr

/-- What the last transaction returned to the caller (log 2). -/
inductive Response where
  /-- No transaction has run. -/
  | idle
  /-- The word of a read (00_scope.md R12). -/
  | word (v : Word)
  /-- A transaction that returns no value completed. -/
  | done
  /-- The record of a decode (41_decode.md R160). -/
  | record (r : DecodedRecord)
  /-- HookTransfer (41_decode.md R161). -/
  | hookTransfer (a : Word)
  /-- The value of a CRC operation (40_crc.md R141). -/
  | crc (c : Nat)
  /-- The transaction raised a fatal fault (60_exceptions.md R400). -/
  | raised (r : FaultRecord)
  deriving DecidableEq, Repr

/-- Why the machine stops with a fault. -/
inductive Fault where
  /-- Raised by every operation while the latch is set: it returns Faulted and changes nothing
  (60_exceptions.md R400). Safe: the spec gives no further behaviour. -/
  | faulted (r : FaultRecord)
  deriving DecidableEq, Repr

/-- Why the machine gives no answer. -/
inductive Refusal where
  /-- An instruction with no meaning yet; no arm of the dispatcher is one. Safe. -/
  | notModelled (mnemonic : String)
  /-- Raised by a decode that finds a cached record the bus no longer agrees with, or cannot be compared with
  (60_exceptions.md R404). Safe: the spec refuses to say which record the block returns. -/
  | staleDecode (a : Word)
  /-- Raised when a reserved jump binding is asked for its execution meaning (60_exceptions.md R405). Safe. -/
  | reservedEncoding (a : Word)
  /-- Raised by an operation whose result depends on a parameter that is not supplied (60_exceptions.md R406).
  Safe. -/
  | parameterOpen (p : OpenParam)
  /-- Raised by a CRC operation outside the admitted widths or polynomials (40_crc.md R140). Safe. -/
  | crcUnadmitted (width poly : Nat)
  deriving DecidableEq, Repr

/-- The words a decode has fetched: the decode address, the word before it, the instruction's words (log 3). -/
structure Fetch where
  addr : Word
  lookback : Word
  words : List Word
  deriving DecidableEq, Repr

/-- No decode is running. -/
def Fetch.idle : Fetch := ⟨0#16, 0#16, []⟩

/-! ### The state -/

/-- The whole state of the block. A table over an n-bit index is a vector of 2^n entries. -/
structure State where
  /-- The decode cache: an unlisted address is UNDECODED (10_state.md R22). -/
  icache : Table (Option DecodedRecord)
  /-- The fault latch (10_state.md R25). -/
  fault : Option FaultRecord
  /-- The cartridge store (10_state.md R26). -/
  ram : Memory
  /-- Which words of the store have been written (10_state.md R27). -/
  initialized : Table Bool
  /-- mem_map.act (10_state.md R28). -/
  memMapAct : Vector Word (2 ^ 8)
  /-- mem_map.rst (10_state.md R28). -/
  memMapRst : Vector Word (2 ^ 8)
  /-- mem_perm.act (10_state.md R29). -/
  memPermAct : Vector (BitVec 4) (2 ^ 8)
  /-- mem_perm.rst (10_state.md R29). -/
  memPermRst : Vector (BitVec 4) (2 ^ 8)
  /-- pfl_map, the index is chapter ++ page (10_state.md R30). -/
  pflMap : Vector (BitVec 12) (2 ^ 8)
  /-- pfl_perm, the index is chapter ++ page (10_state.md R30). -/
  pflPerm : Vector (BitVec 4) (2 ^ 8)
  /-- The selected page of each chapter (10_state.md R31). -/
  bsel : Vector (BitVec 4) (2 ^ 4)
  /-- The feature flags; flag i is bit i (10_state.md R32). -/
  featureFlags : BitVec 128
  /-- (10_state.md R33) -/
  jlpAccelOn : Bool
  /-- An output to the CPU (10_state.md R34). -/
  ltoIsaEnabled : Bool
  /-- (10_state.md R35) -/
  uid : BitVec 64
  /-- The JLP general registers (10_state.md R37). -/
  jlpReg : Vector Word (2 ^ 4)
  /-- The CRC-16 accumulator (10_state.md R38). -/
  jlpCrc : Word
  /-- The sleep counter (10_state.md R39). -/
  jlpSleep : Nat
  /-- The state of the pseudo-random generator (10_state.md R40). -/
  jlpRng : Nat
  /-- The staged save-game RAM address (10_state.md R41). -/
  sgAddr : Word
  /-- The staged save-game row (10_state.md R41). -/
  sgRow : Word
  /-- The save-game flash: byte j of row r at key r * (2 * FLASH_ROW_WORDS) + j (10_state.md R42, log 19). -/
  flash : List Host.Cell
  /-- The CPU's extended registers (10_state.md R43). -/
  ext : Vector Word (2 ^ 4)
  /-- The parameters (00_scope.md R9, log 8). -/
  params : Params
  /-- The model's own: the transactions asked for and not yet run, oldest first (log 1). -/
  requests : List Request
  /-- The model's own: what the last transaction returned (log 2). -/
  response : Response
  /-- The model's own: the words of the decode in progress (log 3). -/
  fetch : Fetch
  /-- The model's own: how many free values have been drawn (log 4). -/
  draws : Nat
  deriving DecidableEq, Repr

/-- The machine after construction and `reset()` (70_reset_and_hazards.md R430, R431): every table 0 or empty,
the flash erased, the cache undecoded, the accelerator off because JLP_MODE is DISABLED by default. No image is
loaded and no transaction is asked for (log 1, log 15). -/
def State.reset : State where
  icache := []
  fault := none
  ram := []
  initialized := []
  memMapAct := Vector.replicate (2 ^ 8) 0#16
  memMapRst := Vector.replicate (2 ^ 8) 0#16
  memPermAct := Vector.replicate (2 ^ 8) 0#4
  memPermRst := Vector.replicate (2 ^ 8) 0#4
  pflMap := Vector.replicate (2 ^ 8) 0#12
  pflPerm := Vector.replicate (2 ^ 8) 0#4
  bsel := Vector.replicate (2 ^ 4) 0#4
  featureFlags := 0#128
  jlpAccelOn := false
  ltoIsaEnabled := false
  uid := 0#64
  jlpReg := Vector.replicate (2 ^ 4) 0#16
  jlpCrc := 0#16
  jlpSleep := 0
  jlpRng := 0
  sgAddr := 0#16
  sgRow := 0#16
  flash := []
  ext := Vector.replicate (2 ^ 4) 0#16
  params := Params.atReset
  requests := []
  response := .idle
  fetch := Fetch.idle
  draws := 0

end Sys2Proof.Machine
end

