-- ==== Sys2Proof/Machine/Flags.lean ====
section
/-! DEFINITION. The flags the block computes: the SDBD lookback, the PC bits of a binding, the permission bits.
The block has no CPU status flag (10_state.md R20). -/

namespace Sys2Proof.Machine

/-- `prev_is_sdbd`: the word before is SDBD, all 16 bits compared (41_decode.md R162). -/
def prevIsSdbd (lookback : Word) : Bool := lookback == 0x0001#16

/-- `pcdst`: the destination is R7 (41_decode.md R168). -/
def pcdst (d : BitVec 3) : Bool := d == 7#3

/-- `pcsrc`: the source is R7 and the destination is not (41_decode.md R168). -/
def pcsrc (s d : BitVec 3) : Bool := s == 7#3 && d != 7#3

/-- R of a permission set (30_encoding.md R115). -/
def permR (q : BitVec 4) : Bool := q.getLsbD 0

/-- W of a permission set (30_encoding.md R115). -/
def permW (q : BitVec 4) : Bool := q.getLsbD 1

/-- N of a permission set (30_encoding.md R115). -/
def permN (q : BitVec 4) : Bool := q.getLsbD 2

/-- B of a permission set (30_encoding.md R115). -/
def permB (q : BitVec 4) : Bool := q.getLsbD 3

/-- The set without B (43_locutus_bus.md R310). -/
def withoutB (q : BitVec 4) : BitVec 4 := q &&& 0b0111#4

/-- The set {R,W} (30_encoding.md R115). -/
def permReadWrite : BitVec 4 := 0b0011#4

/-- LTO_MAPPER is feature flag 32 (10_state.md R32). -/
def ltoMapper (s : State) : Bool := s.featureFlags.getLsbD 32

end Sys2Proof.Machine
end

