-- ==== Sys2Proof/Machine/Operands.lean ====
section
/-! DEFINITION. The operand forms: how each instruction format fills the normalized record (41_decode.md R166),
and the fields of a bus address (20_memory.md R62). -/

namespace Sys2Proof.Machine

/-! ### Fields of a bus address -/

/-- The paragraph of a bus address (20_memory.md R62). -/
def paragraphOf (a : Word) : BitVec 8 := a.extractLsb' 8 8

/-- The offset within the paragraph (20_memory.md R62). -/
def offsetOf (a : Word) : BitVec 8 := a.extractLsb' 0 8

/-- The chapter of a bus address (20_memory.md R62). -/
def chapterOf (a : Word) : BitVec 4 := a.extractLsb' 12 4

/-- The i-th paragraph of a chapter (20_memory.md R62). -/
def chapterParagraph (chapter i : BitVec 4) : BitVec 8 := chapter ++ i

/-! ### Record fields -/

/-- A register number as the record holds it (10_state.md R23). -/
def regNumber (n : BitVec 3) : Fin 8 := n.toFin

/-- One of R0 to R3 (30_encoding.md R105, R106). -/
def lowRegNumber (n : BitVec 2) : Fin 8 := regNumber (n.setWidth 3)

/-- The save register 4 + rr; 7 is "no save" (41_decode.md R166). -/
def saveRegister (rr : BitVec 2) : Fin 8 := regNumber (1#1 ++ rr)

/-- The count of a rotate or shift, w1[2] + 1 (41_decode.md R166). -/
def rotateCount (k : BitVec 1) : Word := k.setWidth 16 + 1#16

/-- The branch target: the address after the instruction plus the displacement, or plus its complement
(42_decode_opcodes.md R240). -/
def branchTarget (address : Word) (d : Direction) (disp : Word) : Word :=
  address + 2#16 + (match d with
    | .forward => disp
    | .backward => ~~~disp)

/-- The direction as reg0 holds it (41_decode.md R166). -/
def directionNumber (d : Direction) : Fin 8 := regNumber (d.bit.setWidth 3)

/-! ### One record shape per format -/

/-- A record of the fetched words: the fields every format shares (42_decode_opcodes.md R200). -/
def recordOfFetch (f : Fetch) (fmt : Format) (op : Nat) (reg0 reg1 : Fin 8) (imm0 imm1 : Word)
    (binding : Binding) : DecodedRecord where
  addr := f.addr
  len := lengthWith (prevIsSdbd f.lookback) fmt
  words := f.words
  fmt := fmt
  op := op
  reg0 := reg0
  reg1 := reg1
  imm0 := imm0
  imm1 := imm1
  sdbd := prevIsSdbd f.lookback
  binding := binding
  lookback := f.lookback

/-- IMPL_1OP_A (41_decode.md R166, R169). -/
def impliedARecord (f : Fetch) (op : Nat) (m : ImpliedOp) : DecodedRecord :=
  recordOfFetch f .impl1opA op 0 0 0#16 0#16 (.implA m)

/-- IMPL_1OP_B (41_decode.md R166, R169). -/
def impliedBRecord (f : Fetch) (op : Nat) (m : ImpliedOp) : DecodedRecord :=
  recordOfFetch f .impl1opB op 0 0 0#16 0#16 (.implB m)

/-- REG_1OP (41_decode.md R166, R169). -/
def reg1Record (f : Fetch) (op : Nat) (n : BitVec 3) (m : Reg1Op) : DecodedRecord :=
  recordOfFetch f .reg1op op (regNumber n) 0 0#16 0#16 (.reg1op m)

/-- NOP_SIN: the low bit is recorded and selects nothing (42_decode_opcodes.md R215, R216). -/
def nopSinRecord (f : Fetch) (op : Nat) (b : BitVec 1) (m : NopSinOp) : DecodedRecord :=
  recordOfFetch f .nopSin op 0 0 (b.setWidth 16) 0#16 (.nopSin m)

/-- ROT_1OP (41_decode.md R166, R169). -/
def rotateRecord (f : Fetch) (op : Nat) (n : BitVec 2) (k : BitVec 1) (m : RotateOp) : DecodedRecord :=
  recordOfFetch f .rot1op op (lowRegNumber n) 0 (rotateCount k) 0#16 (.rot1op m)

/-- REG_2OP, with the two PC bits of the binding (42_decode_opcodes.md R225). -/
def reg2Record (f : Fetch) (op : Nat) (s d : BitVec 3) (m : Reg2Op) : DecodedRecord :=
  recordOfFetch f .reg2op op (regNumber s) (regNumber d) 0#16 0#16 (.reg2op m (pcdst d) (pcsrc s d))

/-- JSR: ii in op, the save register in reg0, the target in imm0 (41_decode.md R166). -/
def jumpRecord (f : Fetch) (ii : Nat) (save : Fin 8) (t : Word) (m : JumpOp) : DecodedRecord :=
  recordOfFetch f .jsr ii save 0 t 0#16 (.jsr m)

/-- COND_BR: x ++ cccc in op, the direction in reg0, the target in imm0, the displacement in imm1
(42_decode_opcodes.md R240). -/
def branchRecord (f : Fetch) (x : BitVec 1) (cccc : BitVec 4) (d : Direction) (disp : Word) (m : BranchOp) :
    DecodedRecord :=
  recordOfFetch f .condBr (x ++ cccc).toNat (directionNumber d) 0 (branchTarget f.addr d disp) disp
    (.condBr m x cccc)

/-- DIR_2OP (41_decode.md R166, R169). -/
def directRecord (f : Fetch) (op : Nat) (r : BitVec 3) (ea : Word) (m : MemOp) : DecodedRecord :=
  recordOfFetch f .dir2op op 0 (regNumber r) ea 0#16 (.dir2op m)

/-- IND_2OP: the binding folds the lookback (41_decode.md R169). -/
def indirectRecord (f : Fetch) (op : Nat) (p r : BitVec 3) (m : MemOp) : DecodedRecord :=
  recordOfFetch f .ind2op op (regNumber p) (regNumber r) 0#16 0#16 (.ind2op m (prevIsSdbd f.lookback))

/-- IMM_2OP: the binding folds the lookback, and so does the length (41_decode.md R164, R169). -/
def immediateRecord (f : Fetch) (op : Nat) (r : BitVec 3) (imm : Word) (m : MemOp) : DecodedRecord :=
  recordOfFetch f .imm2op op 7 (regNumber r) imm 0#16 (.imm2op m (prevIsSdbd f.lookback))

end Sys2Proof.Machine
end

