-- ==== Sys2Proof/Machine/Ops.lean ====
section
/-! DEFINITION. The named operations over tables, the store, the generator, the decode cache and the fault
latch. -/

namespace Sys2Proof.Machine

/-! ### Sparse tables (log 16) -/

/-- The entry of a key; the default when it is not listed. -/
def tableGet {α : Type} (d : α) : Table α → Nat → α
  | [], _ => d
  | (k', v) :: t, k => if k' = k then v else tableGet d t k

/-- The table without the entries whose key the test picks. -/
def tableDrop {α : Type} (p : Nat → Bool) (t : Table α) : Table α := t.filter fun e => !p e.1

/-- The entry put before the first larger key. -/
def tableInsert {α : Type} (k : Nat) (v : α) : Table α → Table α
  | [] => [(k, v)]
  | (k', v') :: t => if k < k' then (k, v) :: (k', v') :: t else (k', v') :: tableInsert k v t

/-- The entry of a key set to a value; writing the default removes it. -/
def tableSet {α : Type} [DecidableEq α] (d : α) (t : Table α) (k : Nat) (v : α) : Table α :=
  if v = d then tableDrop (· == k) t else tableInsert k v (tableDrop (· == k) t)

/-! ### Full tables -/

/-- The entry at an n-bit index. -/
def vecGet {α : Type} {n : Nat} (t : Vector α (2 ^ n)) (i : BitVec n) : α := t[i.toNat]'(i.isLt)

/-- The entry at an n-bit index, set. -/
def vecSet {α : Type} {n : Nat} (t : Vector α (2 ^ n)) (i : BitVec n) (v : α) : Vector α (2 ^ n) :=
  t.set i.toNat v i.isLt

/-- The `count` entries from `lo` on, the i-th of them set to `f i`. -/
@[irreducible] def vecFill {α : Type} {n : Nat} (t : Vector α (2 ^ n)) (lo : BitVec n) (count : Nat) (f : Nat → α) :
    Vector α (2 ^ n) :=
  Vector.ofFn fun i => if lo.toNat ≤ i.val ∧ i.val < lo.toNat + count then f (i.val - lo.toNat) else t[i]

/-! ### Operations that can raise a fault or be refused -/

/-- The result of a part of a transaction: a value and the state, a fatal fault with the state the part left
(60_exceptions.md R400), or a refusal. -/
inductive Res (α : Type) where
  | ok (a : α) (s : State)
  | raise (r : FaultRecord) (s : State)
  | refuse (r : Refusal)

/-- The next part of a transaction, run unless this one raised or was refused. -/
def Res.andThen {α β : Type} (x : Res α) (k : α → State → Res β) : Res β :=
  match x with
  | .ok a s => k a s
  | .raise r s => .raise r s
  | .refuse r => .refuse r

/-- TAKING A FATAL FAULT: the latch is set to the record, the effects already made stay, the rest of the
transaction is not done (60_exceptions.md R400). The block has no trap entry, no saved register and no return
(60_exceptions.md R412): nothing clears the latch. -/
def takeFault (r : FaultRecord) (s : State) : Host.Outcome State Fault Refusal :=
  .next { s with fault := some r, response := .raised r }

/-- Every operation while the latch is set returns Faulted and changes nothing (60_exceptions.md R400). -/
def running (s : State) (k : Host.Outcome State Fault Refusal) : Host.Outcome State Fault Refusal :=
  match s.fault with
  | some r => .fault (.faulted r)
  | none => k

/-- The end of a transaction: what it answers goes to `response` (log 2). -/
def finish {α : Type} (answer : α → Response) (x : Res α) : Host.Outcome State Fault Refusal :=
  match x with
  | .ok a s => .next { s with response := answer a }
  | .raise r s => takeFault r s
  | .refuse r => .refused r

/-! ### The pseudo-random generator and the draws (92_eei_decisions.md D40, log 4) -/

/-- `rng_mix`: every bus access perturbs the generator (43_locutus_bus.md R300). -/
def mixRng (a : Word) (s : State) : State :=
  { s with jlpRng := Config.rngMix s.draws s.jlpRng a, draws := s.draws + 1 }

/-- `rng_next`: a draw that advances the generator (44_jlp_window.md R362). -/
def rngNext (s : State) : Res Word :=
  .ok (Config.rngNext s.draws s.jlpRng).1
    { s with jlpRng := (Config.rngNext s.draws s.jlpRng).2, draws := s.draws + 1 }

/-- A draw of a 16-bit word (44_jlp_window.md R355). -/
def drawWord (s : State) : Res Word := .ok (Config.drawWord s.draws) { s with draws := s.draws + 1 }

/-- A draw from the `count` numbers that start at `lo`, into the sleep counter (44_jlp_window.md R369). -/
def drawSleep (lo count : Nat) (s : State) : State :=
  { s with jlpSleep := lo + Config.drawNat s.draws % count, draws := s.draws + 1 }

/-! ### Translation and the store -/

/-- The active map entry of the paragraph of a bus address (20_memory.md R63). -/
def activeMap (s : State) (a : Word) : Word := vecGet s.memMapAct (paragraphOf a)

/-- The active permission of the paragraph of a bus address (20_memory.md R64). -/
def activePerm (s : State) (a : Word) : BitVec 4 := vecGet s.memPermAct (paragraphOf a)

/-- The physical address, with no wrap (20_memory.md R63). -/
def phys (s : State) (a : Word) : Nat := (activeMap s a).toNat * 256 + (offsetOf a).toNat

/-- The word of the store at a physical address. -/
def ramWord (s : State) (pa : Nat) : Word := tableGet ramDefault s.ram pa

/-- `RamRead`, validated (00_scope.md R12, 60_exceptions.md R402). -/
def ramRead (pa : Nat) (s : State) : Res Word :=
  if pa < ramWords then .ok (ramWord s pa) s else .raise (.ramRange pa) s

/-- `RamWrite`, validated, and the word marked initialized (43_locutus_bus.md R316, 44_jlp_window.md R367). -/
def ramWrite (pa : Nat) (v : Word) (s : State) : Res Unit :=
  if pa < ramWords then
    .ok () { s with ram := tableSet ramDefault s.ram pa v, initialized := tableSet false s.initialized pa true }
  else .raise (.ramRange pa) s

/-- A word of the store is marked initialized (10_state.md R27). -/
def isInitialized (s : State) (pa : Nat) : Bool := tableGet false s.initialized pa

/-! ### Address windows -/

/-- FIXED_UNMAPPED: $0000-$04FF, $1000-$1FFF, $3000-$47FF (20_memory.md R68). -/
def fixedUnmapped (a : Word) : Bool :=
  a < 0x0500#16 || (0x1000#16 ≤ a && a < 0x2000#16) || (0x3000#16 ≤ a && a < 0x4800#16)

/-- JLP_READ_WINDOW: $8000-$803F, $9F80-$9FFF (20_memory.md R69). -/
def jlpReadWindow (a : Word) : Bool :=
  (0x8000#16 ≤ a && a ≤ 0x803F#16) || (0x9F80#16 ≤ a && a ≤ 0x9FFF#16)

/-- JLP_WRITE_WINDOW: $8000-$803F, $9F80-$9FFE (20_memory.md R69). -/
def jlpWriteWindow (a : Word) : Bool :=
  (0x8000#16 ≤ a && a ≤ 0x803F#16) || (0x9F80#16 ≤ a && a ≤ 0x9FFE#16)

/-! ### The decode cache -/

/-- The entry of an address; none is UNDECODED (10_state.md R22). -/
def cached (s : State) (a : Word) : Option DecodedRecord := tableGet none s.icache a.toNat

/-- A record is stored at its own address and returned; the decode is over (41_decode.md R170, R171). -/
def commitRecord (r : DecodedRecord) (s : State) : State :=
  { s with icache := tableSet none s.icache r.addr.toNat (some r), fetch := Fetch.idle, response := .record r }

/-- The addresses whose records a write to `a` resets: a, a - 1, a - 2 (41_decode.md R173). -/
def writtenCover (a : Word) (k : Nat) : Bool :=
  k == a.toNat || k == (a - 1#16).toNat || k == (a - 2#16).toNat

/-- The invalidation that ends every bus write (41_decode.md R173). -/
def invalidateWritten (a : Word) (s : State) : State :=
  { s with icache := tableDrop (writtenCover a) s.icache }

/-- The addresses from lo - 2 up to hi, counting upward modulo 2^16; the whole space when the range spans it
(41_decode.md R174, 70_reset_and_hazards.md R430, log 11). -/
def rangeCover (lo hi : Word) (k : Nat) : Bool :=
  (lo ≤ hi && 0xFFFE#16 ≤ hi - lo) || BitVec.ofNat 16 k - (lo - 2#16) ≤ hi - (lo - 2#16)

/-- `invalidate(lo, hi)` (41_decode.md R174). -/
def invalidateRange (lo hi : Word) (s : State) : State :=
  { s with icache := tableDrop (rangeCover lo hi) s.icache }

/-! ### Meanings of the instruction words -/

/-- What the block does with a decoded instruction: its record is cached and returned (42_decode_opcodes.md
R200, log 20). -/
def runRecord (r : DecodedRecord) (s : State) : Host.Outcome State Fault Refusal :=
  running s (.next (commitRecord r s))

end Sys2Proof.Machine
end

