-- ==== Sys2Proof/Machine/Crc.lean ====
section
/-! DEFINITION. The CRC engine: a stateless datapath (40_crc.md R141), its instances, and the meanings of its
operation ports. -/

namespace Sys2Proof.Machine

/-! ### The datapath -/

/-- A step done `n` times. -/
def times {α : Type} (f : α → α) : Nat → α → α
  | 0, c => c
  | n + 1, c => times f n (f c)

/-- One right shift (40_crc.md R142). -/
def crcShiftRight {w : Nat} (poly c : BitVec w) : BitVec w :=
  if c.getLsbD 0 then (c >>> 1) ^^^ poly else c >>> 1

/-- One left shift (40_crc.md R143). -/
def crcShiftLeft {w : Nat} (poly c : BitVec w) : BitVec w :=
  if c.getMsbD 0 then (c <<< 1) ^^^ poly else c <<< 1

/-- `crc_update_byte`, RIGHT (40_crc.md R142). -/
def crcByteRight {w : Nat} (poly crc : BitVec w) (b : Byte) : BitVec w :=
  times (crcShiftRight poly) 8 (crc ^^^ b.setWidth w)

/-- `crc_update_byte`, LEFT (40_crc.md R143). -/
def crcByteLeft {w : Nat} (poly crc : BitVec w) (b : Byte) : BitVec w :=
  times (crcShiftLeft poly) 8 (crc ^^^ (b.setWidth w <<< (w - 8)))

/-- `crc_update_byte` in the direction of the instance (40_crc.md R140). -/
def crcByte {w : Nat} (dir : CrcDir) (poly crc : BitVec w) (b : Byte) : BitVec w :=
  match dir with
  | .right => crcByteRight poly crc b
  | .left => crcByteLeft poly crc b

/-- `crc_update_block`: the bytes in index order (40_crc.md R144). -/
def crcBlock {w : Nat} (dir : CrcDir) (poly : BitVec w) : BitVec w → List Byte → BitVec w
  | crc, [] => crc
  | crc, b :: bs => crcBlock dir poly (crcByte dir poly crc b) bs

/-- The polynomial of the JLP CRC-16 (40_crc.md R147). -/
def jlpPoly : Word := 0xAD52#16

/-- `crc16_fold`: the low byte first, then the high byte (40_crc.md R146). -/
def crc16Fold (crc v : Word) : Word :=
  crcByteRight jlpPoly (crcByteRight jlpPoly crc (v.extractLsb' 0 8)) (v.extractLsb' 8 8)

/-- The LUIGI header CRC-8, its open initial value and final XOR arguments. DESIGN CHOICE: the spec leaves the final
XOR open and names no parameter for it; the model takes it as an argument all the same (40_crc.md R148, log 24). -/
def luigiHeaderCrc (init xorout : BitVec 8) (xs : List Byte) : BitVec 8 :=
  crcBlock .right 0x8C#8 init xs ^^^ xorout

/-- The LUIGI block CRC-32, its open initial value and final XOR arguments (40_crc.md R148, log 24). -/
def luigiBlockCrc (init xorout : BitVec 32) (xs : List Byte) : BitVec 32 :=
  crcBlock .right 0xEDB88320#32 init xs ^^^ xorout

/-! ### Operation ports -/

/-- A CRC operation of an instance the engine admits; any other instance is refused (40_crc.md R140). The
operands are reduced to the width (40_crc.md R141). -/
def runCrc (width poly crc : Nat) (f : BitVec width → BitVec width → BitVec width) (s : State) :
    Host.Outcome State Fault Refusal :=
  running s <|
    if crcInstanceOk width poly then
      .next { s with response := .crc (f (BitVec.ofNat width poly) (BitVec.ofNat width crc)).toNat }
    else .refused (.crcUnadmitted width poly)

/-- CRC_UPDATE_BYTE_RIGHT (40_crc.md R142). -/
def execCrcUpdateByteRight (width poly crc : Nat) (x : Byte) (s : State) : Host.Outcome State Fault Refusal :=
  runCrc width poly crc (fun p c => crcByteRight p c x) s

/-- CRC_UPDATE_BYTE_LEFT (40_crc.md R143). -/
def execCrcUpdateByteLeft (width poly crc : Nat) (x : Byte) (s : State) : Host.Outcome State Fault Refusal :=
  runCrc width poly crc (fun p c => crcByteLeft p c x) s

/-- CRC_UPDATE_BLOCK (40_crc.md R144). -/
def execCrcUpdateBlock (dir : CrcDir) (width poly crc : Nat) (xs : List Byte) (s : State) :
    Host.Outcome State Fault Refusal :=
  runCrc width poly crc (fun p c => crcBlock dir p c xs) s

/-- CRC16_FOLD (40_crc.md R146). -/
def execCrc16Fold (crc v : Word) (s : State) : Host.Outcome State Fault Refusal :=
  running s (.next { s with response := .crc (crc16Fold crc v).toNat })

end Sys2Proof.Machine
end

