-- ==== Sys2Proof/Machine/Jlp.lean ====
section
/-! DEFINITION. The JLP accelerator: on and off, its registers, multiply and divide, the save-game commands
(44_jlp_window.md). -/

namespace Sys2Proof.Machine

/-! ### On and off -/

/-- `jlp_turn_on`: the identity mapping of $80-$9F, {R,W} (44_jlp_window.md R351). -/
def jlpTurnOn (s : State) : State :=
  if s.jlpAccelOn then s
  else invalidateRange 0x8000#16 0x9FFF#16
    { s with
      jlpAccelOn := true
      memMapAct := vecFill s.memMapAct 0x80#8 32 fun i => BitVec.ofNat 16 (0x80 + i)
      memPermAct := vecFill s.memPermAct 0x80#8 32 fun _ => permReadWrite }

/-- The page-flip entry index of a chapter and a page (10_state.md R30). -/
def pflIndex (chapter page : BitVec 4) : BitVec 8 := chapter ++ page

/-- The map entry of the i-th paragraph of a page: `pfl_map[c][g] + i` (43_locutus_bus.md R310). -/
def pageMap (s : State) (chapter page : BitVec 4) (i : Nat) : Word :=
  (vecGet s.pflMap (pflIndex chapter page)).setWidth 16 + BitVec.ofNat 16 i

/-- The permission a page installs: `pfl_perm[c][g]` without B (43_locutus_bus.md R310). -/
def pagePerm (s : State) (chapter page : BitVec 4) : BitVec 4 :=
  withoutB (vecGet s.pflPerm (pflIndex chapter page))

/-- A page put into the active tables of a chapter, from paragraph `first` of the chapter on
(43_locutus_bus.md R310, 44_jlp_window.md R352). -/
def installPage (chapter page : BitVec 4) (first : BitVec 4) (s : State) : State :=
  { s with
    memMapAct := vecFill s.memMapAct (chapterParagraph chapter first) (16 - first.toNat)
      fun i => pageMap s chapter page (first.toNat + i)
    memPermAct := vecFill s.memPermAct (chapterParagraph chapter first) (16 - first.toNat) fun _ => pagePerm s chapter page }

/-- The page last flipped into chapters 8 and 9, restored with no test of B (44_jlp_window.md R352). -/
def jlpTurnOff (s : State) : State :=
  invalidateRange 0x8000#16 0x9FFF#16 <|
    installPage 9#4 (vecGet s.bsel 9#4) 0#4 <|
    installPage 8#4 (vecGet s.bsel 8#4) 0#4 { s with jlpAccelOn := false }

/-- `jlp_lock`: refused while JLP_LOCK_VALUE is not supplied; a value it does not accept is dropped
(44_jlp_window.md R352, 93_implementation_defined.md I18). -/
def jlpLock (v : Word) (s : State) : Res Unit :=
  match s.params.jlpLockValue with
  | none => .refuse (.parameterOpen .jlpLockValue)
  | some none => .ok () (jlpTurnOff s)
  | some (some w) => .ok () (if v = w then jlpTurnOff s else s)

/-! ### Multiply and divide -/

/-- A JLP general register (10_state.md R37). -/
def jlpRegister (s : State) (i : BitVec 4) : Word := vecGet s.jlpReg i

/-- A JLP general register set. -/
def setJlpRegister (i : BitVec 4) (v : Word) (s : State) : State := { s with jlpReg := vecSet s.jlpReg i v }

/-- The two result registers set: `$9F8E`, `$9F8F` (44_jlp_window.md R357). -/
def setResults (low high : Word) (s : State) : State := setJlpRegister 15#4 high (setJlpRegister 14#4 low s)

/-- A product, taken modulo 2^32, in the result registers (44_jlp_window.md R357). -/
def storeProduct (p : Int) (s : State) : State :=
  setResults ((BitVec.ofInt 32 p).extractLsb' 0 16) ((BitVec.ofInt 32 p).extractLsb' 16 16) s

/-- A quotient and a remainder in the result registers (44_jlp_window.md R357). -/
def storeQuotient (q r : Int) (s : State) : State := setResults (BitVec.ofInt 16 q) (BitVec.ofInt 16 r) s

/-- Pair 0, signed by signed (44_jlp_window.md R357). -/
def mulSs (x y : Word) (s : State) : State := storeProduct (x.toInt * y.toInt) s

/-- Pair 1, signed by unsigned (44_jlp_window.md R357). -/
def mulSu (x y : Word) (s : State) : State := storeProduct (x.toInt * (y.toNat : Int)) s

/-- Pair 2, unsigned by signed (44_jlp_window.md R357). -/
def mulUs (x y : Word) (s : State) : State := storeProduct ((x.toNat : Int) * y.toInt) s

/-- Pair 3, unsigned by unsigned (44_jlp_window.md R357). -/
def mulUu (x y : Word) (s : State) : State := storeProduct ((x.toNat : Int) * (y.toNat : Int)) s

/-- `sdiv`'s quotient, truncated (44_jlp_window.md R358). -/
def sdivQuotient (x y : Int) : Int := x.tdiv y

/-- `sdiv`'s remainder, `X - q * Y` (44_jlp_window.md R358). -/
def sdivRemainder (x y : Int) : Int := x - sdivQuotient x y * y

/-- Pair 4, signed; a division by zero leaves the results (44_jlp_window.md R357, R358). -/
def divSs (x y : Word) (s : State) : State :=
  if y = 0#16 then s else storeQuotient (sdivQuotient x.toInt y.toInt) (sdivRemainder x.toInt y.toInt) s

/-- Pair 5, unsigned; a division by zero leaves the results (44_jlp_window.md R357, R358). -/
def divUu (x y : Word) (s : State) : State :=
  if y = 0#16 then s else storeQuotient ((x.toNat / y.toNat : Nat) : Int) ((x.toNat % y.toNat : Nat) : Int) s

/-- `muldiv(k)` on the two registers of the pair (44_jlp_window.md R357). -/
def muldiv (k : BitVec 3) (s : State) : State :=
  let x := jlpRegister s (k ++ 0#1)
  let y := jlpRegister s (k ++ 1#1)
  match k.toNat with
  | 0 => mulSs x y s
  | 1 => mulSu x y s
  | 2 => mulUs x y s
  | 3 => mulUu x y s
  | 4 => divSs x y s
  | 5 => divUu x y s
  | _ => s

/-- A write of `$9F80 + i`: the register, then the operation of its pair; the registers from `$9F8C` on start
none (44_jlp_window.md R356, R359). -/
def writeJlpRegister (i : BitVec 4) (v : Word) (s : State) : State :=
  muldiv (i.extractLsb' 1 3) (setJlpRegister i v s)

/-! ### The save-game flash -/

/-- A bound of the flash rows: 0 unless JLP_MODE is ACCEL_FLASH_ON (00_scope.md R9). -/
def flashBound (p : Params) (bound : Option Nat) : Option Nat :=
  if p.jlpMode = .accelFlashOn then bound else some 0

/-- A check whose parameter may not be supplied: known, or open. -/
abbrev Check := Except OpenParam Bool

/-- The check of a supplied parameter. -/
def checkParam (name : OpenParam) (value : Option Nat) (test : Nat → Bool) : Check :=
  match value with
  | some n => .ok (test n)
  | none => .error name

/-- Both checks: false as soon as one is known false, so that a missing parameter is asked for only when the
result depends on it (60_exceptions.md R406, log 18). -/
def Check.both (x y : Check) : Check :=
  match x, y with
  | .ok false, _ => .ok false
  | _, .ok false => .ok false
  | .error e, _ => .error e
  | .ok true, y => y

/-- `row_ok` (44_jlp_window.md R365). -/
def rowOk (p : Params) (row : Word) : Check :=
  Check.both (checkParam .flashStartRow (flashBound p p.flashStartRow) (· ≤ row.toNat))
    (checkParam .flashEndRow (flashBound p p.flashEndRow) (row.toNat < ·))

/-- `addr_ok`, in natural numbers (44_jlp_window.md R365). Above `$9F80` no row size passes, so the row size is not
asked for there (60_exceptions.md R406, log 18). -/
def addrOk (p : Params) (addr : Word) : Check :=
  Check.both (.ok (0x8040 ≤ addr.toNat && addr.toNat ≤ 0x9F80))
    (checkParam .flashRowWords p.flashRowWords fun n => addr.toNat + n - 1 ≤ 0x9F7F)

/-- `valid` of a copy (44_jlp_window.md R365). -/
def copyValid (s : State) : Check := Check.both (rowOk s.params s.sgRow) (addrOk s.params s.sgAddr)

/-- A byte of the flash by its place in the byte vector (10_state.md R42, log 19). -/
def flashByte (s : State) (k : Nat) : Byte := tableGet flashDefault s.flash k

/-- The place of byte j of a row (log 19). -/
def flashKey (rowWords row j : Nat) : Nat := row * (2 * rowWords) + j

/-- A byte of the flash set. -/
def setFlashByte (k : Nat) (b : Byte) (s : State) : State := { s with flash := tableSet flashDefault s.flash k b }

/-- Every byte of the row is 0xFF (44_jlp_window.md R366). -/
def rowErased (rowWords row : Nat) (s : State) : Bool :=
  (List.range (2 * rowWords)).all fun j => flashByte s (flashKey rowWords row j) == flashDefault

/-- A word stored as two bytes, the low one first (44_jlp_window.md R370). -/
def setFlashWord (rowWords row j : Nat) (w : Word) (s : State) : State :=
  setFlashByte (flashKey rowWords row (2 * j + 1)) (w.extractLsb' 8 8)
    (setFlashByte (flashKey rowWords row (2 * j)) (w.extractLsb' 0 8) s)

/-- A word of two bytes, the low one first (44_jlp_window.md R370). -/
def flashWord (rowWords row j : Nat) (s : State) : Word :=
  flashByte s (flashKey rowWords row (2 * j + 1)) ++ flashByte s (flashKey rowWords row (2 * j))

/-- The bus address of word j of the staged RAM area (44_jlp_window.md R366). -/
def stagedAddress (s : State) (j : Nat) : Word := s.sgAddr + BitVec.ofNat 16 j

/-- The words j, j + 1, … of the staged RAM area copied to the row, `count` of them (44_jlp_window.md R366). -/
def copyToFlash (rowWords row : Nat) : Nat → Nat → State → Res Unit
  | 0, _, s => .ok () s
  | count + 1, j, s =>
    (ramRead (phys s (stagedAddress s j)) s).andThen fun w s =>
      copyToFlash rowWords row count (j + 1) (setFlashWord rowWords row j w s)

/-- The words j, j + 1, … of the row copied to the staged RAM area, `count` of them (44_jlp_window.md R367). -/
def copyToRam (rowWords row : Nat) : Nat → Nat → State → Res Unit
  | 0, _, s => .ok () s
  | count + 1, j, s =>
    (ramWrite (phys s (stagedAddress s j)) (flashWord rowWords row j s) s).andThen fun _ s =>
      copyToRam rowWords row count (j + 1) s

/-- A command's effect where the check holds, none where it fails; refused where the check or FLASH_ROW_WORDS is
open (44_jlp_window.md R365, 60_exceptions.md R406). -/
def whenValid (c : Check) (s : State) (k : Nat → Res Unit) : Res Unit :=
  match c with
  | .error p => .refuse (.parameterOpen p)
  | .ok false => .ok () s
  | .ok true =>
    match s.params.flashRowWords with
    | none => .refuse (.parameterOpen .flashRowWords)
    | some n => k n

/-- `sg_ram_to_flash`: the latency first, then the copy into an erased row (44_jlp_window.md R366). -/
def ramToFlash (s : State) : Res Unit :=
  let s := drawSleep 400 200 s
  whenValid (copyValid s) s fun n =>
    if rowErased n s.sgRow.toNat s then copyToFlash n s.sgRow.toNat n 0 s else .ok () s

/-- `sg_flash_to_ram`: the latency first, then the copy and the invalidation of the copied range
(44_jlp_window.md R367). -/
def flashToRam (s : State) : Res Unit :=
  let s := drawSleep 10 20 s
  whenValid (copyValid s) s fun n =>
    (copyToRam n s.sgRow.toNat n 0 s).andThen fun _ s =>
      .ok () (invalidateRange s.sgAddr (BitVec.ofNat 16 (s.sgAddr.toNat + n - 1)) s)

/-- The bytes an erase of the staged row sets to 0xFF: those of the rows of its aligned 8-row sector that lie
inside the bounds (44_jlp_window.md R368). -/
def eraseCover (p : Params) (rowWords : Nat) (row : Word) (k : Nat) : Bool :=
  let r := k / (2 * rowWords)
  decide (0 < rowWords) && r / 8 == row.toNat / 8 && (rowOk p (BitVec.ofNat 16 r)).toOption == some true

/-- The rows an erase covers, erased (44_jlp_window.md R368). -/
def eraseSector (rowWords : Nat) (s : State) : State :=
  { s with flash := tableDrop (eraseCover s.params rowWords s.sgRow) s.flash }

/-- `sg_erase`: the latency first, then the sector; the RAM address is not used (44_jlp_window.md R368). -/
def sectorErase (s : State) : Res Unit :=
  let s := drawSleep 800 200 s
  whenValid (rowOk s.params s.sgRow) s fun n =>
    .ok () (eraseSector n s)

/-! ### The register windows -/

/-- The RAM address staged (44_jlp_window.md R364). -/
def setSgAddr (v : Word) (s : State) : State := { s with sgAddr := v }

/-- The flash row staged (44_jlp_window.md R364). -/
def setSgRow (v : Word) (s : State) : State := { s with sgRow := v }

/-- The CRC accumulator set (44_jlp_window.md R361). -/
def setJlpCrc (c : Word) (s : State) : State := { s with jlpCrc := c }

/-- An extended register set (44_jlp_window.md R363). -/
def setExt (i : BitVec 4) (v : Word) (s : State) : State := { s with ext := vecSet s.ext i v }

/-- A bus address of the JLP general registers, $9F80-$9F8F. -/
def inJlpRegisters (a : Word) : Bool := a.extractLsb' 4 12 == 0x9F8#12

/-- A bus address of the extended registers, $9F90-$9F9F. -/
def inExtRegisters (a : Word) : Bool := a.extractLsb' 4 12 == 0x9F9#12

/-- `jlp_read` (44_jlp_window.md R355). -/
def jlpRead (a : Word) (s : State) : Res Word :=
  if inJlpRegisters a then .ok (jlpRegister s (a.extractLsb' 0 4)) s
  else if inExtRegisters a && s.params.extRegsWired then .ok (vecGet s.ext (a.extractLsb' 0 4)) s
  else if a = 0x9FFD#16 then .ok s.jlpCrc s
  else if a = 0x9FFE#16 then rngNext s
  else drawWord s

/-- `jlp_write` (44_jlp_window.md R356). -/
def jlpWrite (a v : Word) (s : State) : Res Unit :=
  if a = 0x8025#16 then .ok () (setSgAddr v s)
  else if a = 0x8026#16 then .ok () (setSgRow v s)
  else if a = 0x802D#16 then (if v = 0xC0DE#16 then ramToFlash s else .ok () s)
  else if a = 0x802E#16 then (if v = 0xDEC0#16 then flashToRam s else .ok () s)
  else if a = 0x802F#16 then (if v = 0xBEEF#16 then sectorErase s else .ok () s)
  else if a = 0x8034#16 then jlpLock v s
  else if inJlpRegisters a then .ok () (writeJlpRegister (a.extractLsb' 0 4) v s)
  else if inExtRegisters a then
    .ok () (if s.params.extRegsWired then setExt (a.extractLsb' 0 4) v s else s)
  else if a = 0x9FFC#16 then .ok () (setJlpCrc (crc16Fold s.jlpCrc v) s)
  else if a = 0x9FFD#16 then .ok () (setJlpCrc v s)
  else .ok () s

end Sys2Proof.Machine
end

