-- ==== Sys2Proof/Machine/Bus.lean ====
section
/-! DEFINITION. The bus operations of the translation unit: `read`, `write` and its branches, `Peek`
(43_locutus_bus.md). -/

namespace Sys2Proof.Machine

/-- The value the bus gives where nothing answers (00_scope.md R8). -/
def sentinel : Word := 0xFFFF#16

/-- A stalled access takes one from the sleep counter (43_locutus_bus.md R300). -/
def stall (s : State) : State := { s with jlpSleep := s.jlpSleep - 1 }

/-! ### Read -/

/-- `read(a, force)` (43_locutus_bus.md R300 to R302, R317). -/
def busRead (a : Word) (force : Bool) (s : State) : Res Word :=
  let s := mixRng a s
  if 0 < s.jlpSleep then .ok sentinel (stall s)
  else if fixedUnmapped a then .ok sentinel s
  else if s.jlpAccelOn && jlpReadWindow a then jlpRead a s
  else if permR (activePerm s a) || force then ramRead (phys s a) s
  else .ok sentinel s

/-- `Peek(a)`: the value a read would give, with no state change; none where it is unknown
(43_locutus_bus.md R318). -/
def peek (s : State) (a : Word) : Option Word :=
  if 0 < s.jlpSleep then none
  else if fixedUnmapped a then some sentinel
  else if s.jlpAccelOn && jlpReadWindow a then none
  else if permR (activePerm s a) then
    (if phys s a < ramWords then some (ramWord s (phys s a)) else none)
  else some sentinel

/-! ### The branches of a write -/

/-- The PV shadow: the old word of a readable or writable paragraph goes to JLP register 13, except at `$9F8D`
(43_locutus_bus.md R303). -/
def pvShadow (a : Word) (s : State) : Res Unit :=
  if (permR (activePerm s a) || permW (activePerm s a)) && a != 0x9F8D#16 then
    (ramRead (phys s a) s).andThen fun w s => .ok () (setJlpRegister 13#4 w s)
  else .ok () s

/-- $0040-$005F (43_locutus_bus.md R308). -/
def bankswitchMatches (a : Word) : Bool := a.extractLsb' 5 11 == 2#11

/-- The first paragraph of a half-chapter, c * 16 + h * 8 (43_locutus_bus.md R308). -/
def halfChapterBase (chapter : BitVec 4) (half : BitVec 1) : BitVec 8 := chapter ++ half ++ 0#3

/-- `bankswitch` (43_locutus_bus.md R308). -/
def bankswitch (a v : Word) (s : State) : State :=
  let c := a.extractLsb' 0 4
  let h := a.extractLsb' 4 1
  let base := halfChapterBase c h
  let lo : Word := c ++ h ++ 0#11
  if permB (vecGet s.memPermAct base) then
    invalidateRange lo (lo + 0x7FF#16)
      { s with memMapAct := vecFill s.memMapAct base 8 fun i => (v + BitVec.ofNat 16 i) &&& 0x00FF#16 }
  else s

/-- `unlock_matches`; the re-entrancy guard is always open for a bus write (43_locutus_bus.md R306, R307). -/
def unlockMatches (a v : Word) (s : State) : Bool :=
  a == 0x8033#16 && v == 0x4A5A#16 && !s.jlpAccelOn && s.params.jlpMode != .disabled

/-- `page_flip_matches` (43_locutus_bus.md R310). -/
def pageFlipMatches (a v : Word) (s : State) : Bool :=
  a.extractLsb' 0 12 == 0xFFF#12 && v &&& s.params.pflSigMask == 0x0A50#16 &&
    !(s.jlpAccelOn && jlpReadWindow a)

/-- The first paragraph of a chapter that a page-flip changes: 8 in chapter 4, else 0 (43_locutus_bus.md
R310). -/
def firstFlipped (chapter : BitVec 4) : BitVec 4 := if chapter = 4#4 then 8#4 else 0#4

/-- `page_flip` (43_locutus_bus.md R310). -/
def pageFlip (a v : Word) (s : State) : State :=
  let c := chapterOf a
  let g := v.extractLsb' 0 4
  if permB (vecGet s.pflPerm (pflIndex c g)) then
    let s := installPage c g (firstFlipped c) s
    invalidateRange (c ++ firstFlipped c ++ 0#8) (c ++ 0xFFF#12) { s with bsel := vecSet s.bsel c g }
  else s

/-- `mapper_matches` (43_locutus_bus.md R312). -/
def mapperMatches (a : Word) (s : State) : Bool :=
  ltoMapper s && (0x1000#16 ≤ a && a ≤ 0x14FF#16) && !permW (activePerm s a)

/-- The map half of a page-flip entry value: PFL_PACK (30_encoding.md R118, log 9). -/
def packedMap (p : Params) (v : Word) : BitVec 12 :=
  match p.pflPack with
  | .specDefault => v.extractLsb' 0 12
  | .other => Config.pflMapOther v

/-- The permission half of a page-flip entry value: PFL_PACK (30_encoding.md R118, log 9). -/
def packedPerm (p : Params) (v : Word) : BitVec 4 :=
  match p.pflPack with
  | .specDefault => v.extractLsb' 12 4
  | .other => Config.pflPermOther v

/-- The bus range of one paragraph invalidated (43_locutus_bus.md R314). -/
def invalidateParagraph (p : BitVec 8) (s : State) : State := invalidateRange (p ++ 0#8) (p ++ 0xFF#8) s

/-- A map index written by the mapper (43_locutus_bus.md R313). -/
def setMap (copy : MapCopy) (p : BitVec 8) (v : Word) (s : State) : State :=
  match copy with
  | .active => invalidateParagraph p { s with memMapAct := vecSet s.memMapAct p v }
  | .resetDefault => { s with memMapRst := vecSet s.memMapRst p v }

/-- A permission written by the mapper (43_locutus_bus.md R313). -/
def setPerm (copy : MapCopy) (p : BitVec 8) (q : BitVec 4) (s : State) : State :=
  match copy with
  | .active => invalidateParagraph p { s with memPermAct := vecSet s.memPermAct p q }
  | .resetDefault => { s with memPermRst := vecSet s.memPermRst p q }

/-- A page-flip entry written by the mapper (43_locutus_bus.md R313). -/
def setPageEntry (chapter page : BitVec 4) (v : Word) (s : State) : State :=
  { s with
    pflMap := vecSet s.pflMap (pflIndex chapter page) (packedMap s.params v)
    pflPerm := vecSet s.pflPerm (pflIndex chapter page) (packedPerm s.params v) }

/-- `mapper` (43_locutus_bus.md R313). -/
def mapper (a v : Word) (s : State) : State :=
  if a ≤ 0x11FF#16 then setMap (copyOf (a.extractLsb' 8 1)) (a.extractLsb' 0 8) v s
  else if a ≤ 0x13FF#16 then setPerm (copyOf (a.extractLsb' 8 1)) (a.extractLsb' 0 8) (v.extractLsb' 0 4) s
  else setPageEntry (a.extractLsb' 4 4) (a.extractLsb' 0 4) v s

/-- NARROW_STORE (43_locutus_bus.md R316, log 9). -/
def narrowStore (p : Params) (v : Word) : Word :=
  match p.narrowStore with
  | .specDefault => v &&& 0x00FF#16
  | .other => Config.narrowStoreOther v

/-- The word a store into the paragraph of an address puts there (20_memory.md R66). -/
def storedWord (s : State) (a v : Word) : Word :=
  if permN (activePerm s a) then narrowStore s.params v else v

/-- `ram_store` (43_locutus_bus.md R316). -/
def ramStore (a v : Word) (s : State) : Res Unit :=
  if permW (activePerm s a) then ramWrite (phys s a) (storedWord s a v) s else .ok () s

/-! ### Write -/

/-- The one branch a write takes after the PV shadow, in the priority order (43_locutus_bus.md R304). -/
def writeBranch (a v : Word) (s : State) : Res Unit :=
  if bankswitchMatches a then .ok () (bankswitch a v s)
  else if s.jlpAccelOn && jlpWriteWindow a then jlpWrite a v s
  else if unlockMatches a v s then .ok () (jlpTurnOn s)
  else if pageFlipMatches a v s then .ok () (pageFlip a v s)
  else if mapperMatches a s then .ok () (mapper a v s)
  else ramStore a v s

/-- `write(a, v)` (43_locutus_bus.md R304). -/
def busWrite (a v : Word) (s : State) : Res Unit :=
  let s := mixRng a s
  if 0 < s.jlpSleep then .ok () (invalidateWritten a (stall s))
  else
    (pvShadow a s).andThen fun _ s =>
      (writeBranch a v s).andThen fun _ s => .ok () (invalidateWritten a s)

/-! ### The two transactions -/

/-- A bus read as a transaction: the word goes to the caller (00_scope.md R7). -/
def readTransaction (a : Word) (force : Bool) (s : State) : Host.Outcome State Fault Refusal :=
  running s (finish .word (busRead a force s))

/-- A bus write as a transaction (00_scope.md R7). -/
def writeTransaction (a v : Word) (s : State) : Host.Outcome State Fault Refusal :=
  running s (finish (fun _ => .done) (busWrite a v s))

/-- A read or a write, as the access says. -/
def accessTransaction (a : Word) (acc : Access) (s : State) : Host.Outcome State Fault Refusal :=
  match acc with
  | .read force => readTransaction a force s
  | .write v => writeTransaction a v s

end Sys2Proof.Machine
end

