-- ==== Sys2Proof/Machine/BusRows.lean ====
section
/-! DEFINITION. The meanings of the bus rows: each is the whole bus transaction at the row's address
(43_locutus_bus.md, 44_jlp_window.md, log 12). Which branch runs is decided by the state, as R302 and R304 say. -/

namespace Sys2Proof.Machine

/-- BUS_READ (43_locutus_bus.md R300 to R302). -/
def execBusRead (a : Word) (force : Bool) (s : State) : Host.Outcome State Fault Refusal :=
  readTransaction a force s

/-- BUS_WRITE (43_locutus_bus.md R304, R316). -/
def execBusWrite (a v : Word) (s : State) : Host.Outcome State Fault Refusal :=
  writeTransaction a v s

/-- BANKSWITCH (43_locutus_bus.md R308). -/
def execBankswitch (chapter : BitVec 4) (half : BitVec 1) (v : Word) (s : State) :
    Host.Outcome State Fault Refusal :=
  writeTransaction (bankswitchAddr chapter half) v s

/-- PAGE_FLIP (43_locutus_bus.md R310). -/
def execPageFlip (chapter : BitVec 4) (v : Word) (s : State) : Host.Outcome State Fault Refusal :=
  writeTransaction (chapterEnd chapter) v s

/-- MAP_SET (43_locutus_bus.md R313). -/
def execMapSet (copy : MapCopy) (p : BitVec 8) (v : Word) (s : State) : Host.Outcome State Fault Refusal :=
  writeTransaction (mapSetAddr copy p) v s

/-- PERM_SET (43_locutus_bus.md R313). -/
def execPermSet (copy : MapCopy) (p : BitVec 8) (v : Word) (s : State) : Host.Outcome State Fault Refusal :=
  writeTransaction (permSetAddr copy p) v s

/-- PFL_SET (43_locutus_bus.md R313). -/
def execPflSet (chapter page : BitVec 4) (v : Word) (s : State) : Host.Outcome State Fault Refusal :=
  writeTransaction (pflSetAddr chapter page) v s

/-- JLP_UNLOCK (43_locutus_bus.md R306). -/
def execJlpUnlock (v : Word) (s : State) : Host.Outcome State Fault Refusal :=
  writeTransaction 0x8033#16 v s

/-- JLP_LOCK (44_jlp_window.md R352). -/
def execJlpLock (v : Word) (s : State) : Host.Outcome State Fault Refusal :=
  writeTransaction 0x8034#16 v s

/-- JLP_SG_ADDR (44_jlp_window.md R364). -/
def execJlpSgAddr (v : Word) (s : State) : Host.Outcome State Fault Refusal :=
  writeTransaction 0x8025#16 v s

/-- JLP_SG_ROW (44_jlp_window.md R364). -/
def execJlpSgRow (v : Word) (s : State) : Host.Outcome State Fault Refusal :=
  writeTransaction 0x8026#16 v s

/-- JLP_RAM_TO_FLASH (44_jlp_window.md R366). -/
def execJlpRamToFlash (v : Word) (s : State) : Host.Outcome State Fault Refusal :=
  writeTransaction 0x802D#16 v s

/-- JLP_FLASH_TO_RAM (44_jlp_window.md R367). -/
def execJlpFlashToRam (v : Word) (s : State) : Host.Outcome State Fault Refusal :=
  writeTransaction 0x802E#16 v s

/-- JLP_SECTOR_ERASE (44_jlp_window.md R368). -/
def execJlpSectorErase (v : Word) (s : State) : Host.Outcome State Fault Refusal :=
  writeTransaction 0x802F#16 v s

/-- JLP_MUL_SS (44_jlp_window.md R357). -/
def execJlpMulSs (half : BitVec 1) (v : Word) (s : State) : Host.Outcome State Fault Refusal :=
  writeTransaction (pairAddr 0#3 half) v s

/-- JLP_MUL_SU (44_jlp_window.md R357). -/
def execJlpMulSu (half : BitVec 1) (v : Word) (s : State) : Host.Outcome State Fault Refusal :=
  writeTransaction (pairAddr 1#3 half) v s

/-- JLP_MUL_US (44_jlp_window.md R357). -/
def execJlpMulUs (half : BitVec 1) (v : Word) (s : State) : Host.Outcome State Fault Refusal :=
  writeTransaction (pairAddr 2#3 half) v s

/-- JLP_MUL_UU (44_jlp_window.md R357). -/
def execJlpMulUu (half : BitVec 1) (v : Word) (s : State) : Host.Outcome State Fault Refusal :=
  writeTransaction (pairAddr 3#3 half) v s

/-- JLP_DIV_SS (44_jlp_window.md R357, R358). -/
def execJlpDivSs (half : BitVec 1) (v : Word) (s : State) : Host.Outcome State Fault Refusal :=
  writeTransaction (pairAddr 4#3 half) v s

/-- JLP_DIV_UU (44_jlp_window.md R357, R358). -/
def execJlpDivUu (half : BitVec 1) (v : Word) (s : State) : Host.Outcome State Fault Refusal :=
  writeTransaction (pairAddr 5#3 half) v s

/-- JLP_REG_WRITE, the registers that start no operation (44_jlp_window.md R359). -/
def execJlpRegWrite (i : BitVec 2) (v : Word) (s : State) : Host.Outcome State Fault Refusal :=
  writeTransaction (jlpRegAddr (3#2 ++ i)) v s

/-- JLP_REG_READ (44_jlp_window.md R355). -/
def execJlpRegRead (i : BitVec 4) (force : Bool) (s : State) : Host.Outcome State Fault Refusal :=
  readTransaction (jlpRegAddr i) force s

/-- JLP_EXT_REG (44_jlp_window.md R363). -/
def execJlpExtReg (i : BitVec 4) (acc : Access) (s : State) : Host.Outcome State Fault Refusal :=
  accessTransaction (extRegAddr i) acc s

/-- JLP_CRC_FOLD (44_jlp_window.md R360). -/
def execJlpCrcFold (v : Word) (s : State) : Host.Outcome State Fault Refusal :=
  writeTransaction 0x9FFC#16 v s

/-- JLP_CRC_ACCESS (44_jlp_window.md R361). -/
def execJlpCrcAccess (acc : Access) (s : State) : Host.Outcome State Fault Refusal :=
  accessTransaction 0x9FFD#16 acc s

/-- JLP_RANDOM (44_jlp_window.md R362). -/
def execJlpRandom (force : Bool) (s : State) : Host.Outcome State Fault Refusal :=
  readTransaction 0x9FFE#16 force s

end Sys2Proof.Machine
end

