-- ==== Sys2Proof/Machine/Branch.lean ====
section
/-! DEFINITION. The meanings of the COND_BR format: what each
instruction decodes to, and the transaction that caches and returns it (42_decode_opcodes.md, log 20). -/

namespace Sys2Proof.Machine

/-- The record of B (42_decode_opcodes.md R241). -/
def recB (d : Direction) (disp : Word) (f : Fetch) : DecodedRecord :=
  branchRecord f 0#1 0#4 d disp .b

/-- B (42_decode_opcodes.md R241). -/
def execB (d : Direction) (disp : Word) (s : State) : Host.Outcome State Fault Refusal :=
  runRecord (recB d disp s.fetch) s

/-- The record of BC (42_decode_opcodes.md R242). -/
def recBc (d : Direction) (disp : Word) (f : Fetch) : DecodedRecord :=
  branchRecord f 0#1 1#4 d disp .bc

/-- BC (42_decode_opcodes.md R242). -/
def execBc (d : Direction) (disp : Word) (s : State) : Host.Outcome State Fault Refusal :=
  runRecord (recBc d disp s.fetch) s

/-- The record of BOV (42_decode_opcodes.md R243). -/
def recBov (d : Direction) (disp : Word) (f : Fetch) : DecodedRecord :=
  branchRecord f 0#1 2#4 d disp .bov

/-- BOV (42_decode_opcodes.md R243). -/
def execBov (d : Direction) (disp : Word) (s : State) : Host.Outcome State Fault Refusal :=
  runRecord (recBov d disp s.fetch) s

/-- The record of BPL (42_decode_opcodes.md R244). -/
def recBpl (d : Direction) (disp : Word) (f : Fetch) : DecodedRecord :=
  branchRecord f 0#1 3#4 d disp .bpl

/-- BPL (42_decode_opcodes.md R244). -/
def execBpl (d : Direction) (disp : Word) (s : State) : Host.Outcome State Fault Refusal :=
  runRecord (recBpl d disp s.fetch) s

/-- The record of BEQ (42_decode_opcodes.md R245). -/
def recBeq (d : Direction) (disp : Word) (f : Fetch) : DecodedRecord :=
  branchRecord f 0#1 4#4 d disp .beq

/-- BEQ (42_decode_opcodes.md R245). -/
def execBeq (d : Direction) (disp : Word) (s : State) : Host.Outcome State Fault Refusal :=
  runRecord (recBeq d disp s.fetch) s

/-- The record of BLT (42_decode_opcodes.md R246). -/
def recBlt (d : Direction) (disp : Word) (f : Fetch) : DecodedRecord :=
  branchRecord f 0#1 5#4 d disp .blt

/-- BLT (42_decode_opcodes.md R246). -/
def execBlt (d : Direction) (disp : Word) (s : State) : Host.Outcome State Fault Refusal :=
  runRecord (recBlt d disp s.fetch) s

/-- The record of BLE (42_decode_opcodes.md R247). -/
def recBle (d : Direction) (disp : Word) (f : Fetch) : DecodedRecord :=
  branchRecord f 0#1 6#4 d disp .ble

/-- BLE (42_decode_opcodes.md R247). -/
def execBle (d : Direction) (disp : Word) (s : State) : Host.Outcome State Fault Refusal :=
  runRecord (recBle d disp s.fetch) s

/-- The record of BUSC (42_decode_opcodes.md R248). -/
def recBusc (d : Direction) (disp : Word) (f : Fetch) : DecodedRecord :=
  branchRecord f 0#1 7#4 d disp .busc

/-- BUSC (42_decode_opcodes.md R248). -/
def execBusc (d : Direction) (disp : Word) (s : State) : Host.Outcome State Fault Refusal :=
  runRecord (recBusc d disp s.fetch) s

/-- The record of NOPP (42_decode_opcodes.md R249). -/
def recNopp (d : Direction) (disp : Word) (f : Fetch) : DecodedRecord :=
  branchRecord f 0#1 8#4 d disp .nopp

/-- NOPP (42_decode_opcodes.md R249). -/
def execNopp (d : Direction) (disp : Word) (s : State) : Host.Outcome State Fault Refusal :=
  runRecord (recNopp d disp s.fetch) s

/-- The record of BNC (42_decode_opcodes.md R250). -/
def recBnc (d : Direction) (disp : Word) (f : Fetch) : DecodedRecord :=
  branchRecord f 0#1 9#4 d disp .bnc

/-- BNC (42_decode_opcodes.md R250). -/
def execBnc (d : Direction) (disp : Word) (s : State) : Host.Outcome State Fault Refusal :=
  runRecord (recBnc d disp s.fetch) s

/-- The record of BNOV (42_decode_opcodes.md R251). -/
def recBnov (d : Direction) (disp : Word) (f : Fetch) : DecodedRecord :=
  branchRecord f 0#1 10#4 d disp .bnov

/-- BNOV (42_decode_opcodes.md R251). -/
def execBnov (d : Direction) (disp : Word) (s : State) : Host.Outcome State Fault Refusal :=
  runRecord (recBnov d disp s.fetch) s

/-- The record of BMI (42_decode_opcodes.md R252). -/
def recBmi (d : Direction) (disp : Word) (f : Fetch) : DecodedRecord :=
  branchRecord f 0#1 11#4 d disp .bmi

/-- BMI (42_decode_opcodes.md R252). -/
def execBmi (d : Direction) (disp : Word) (s : State) : Host.Outcome State Fault Refusal :=
  runRecord (recBmi d disp s.fetch) s

/-- The record of BNEQ (42_decode_opcodes.md R253). -/
def recBneq (d : Direction) (disp : Word) (f : Fetch) : DecodedRecord :=
  branchRecord f 0#1 12#4 d disp .bneq

/-- BNEQ (42_decode_opcodes.md R253). -/
def execBneq (d : Direction) (disp : Word) (s : State) : Host.Outcome State Fault Refusal :=
  runRecord (recBneq d disp s.fetch) s

/-- The record of BGE (42_decode_opcodes.md R254). -/
def recBge (d : Direction) (disp : Word) (f : Fetch) : DecodedRecord :=
  branchRecord f 0#1 13#4 d disp .bge

/-- BGE (42_decode_opcodes.md R254). -/
def execBge (d : Direction) (disp : Word) (s : State) : Host.Outcome State Fault Refusal :=
  runRecord (recBge d disp s.fetch) s

/-- The record of BGT (42_decode_opcodes.md R255). -/
def recBgt (d : Direction) (disp : Word) (f : Fetch) : DecodedRecord :=
  branchRecord f 0#1 14#4 d disp .bgt

/-- BGT (42_decode_opcodes.md R255). -/
def execBgt (d : Direction) (disp : Word) (s : State) : Host.Outcome State Fault Refusal :=
  runRecord (recBgt d disp s.fetch) s

/-- The record of BESC (42_decode_opcodes.md R256). -/
def recBesc (d : Direction) (disp : Word) (f : Fetch) : DecodedRecord :=
  branchRecord f 0#1 15#4 d disp .besc

/-- BESC (42_decode_opcodes.md R256). -/
def execBesc (d : Direction) (disp : Word) (s : State) : Host.Outcome State Fault Refusal :=
  runRecord (recBesc d disp s.fetch) s

/-- The record of BEXT (42_decode_opcodes.md R257). -/
def recBext (d : Direction) (e : BitVec 4) (disp : Word) (f : Fetch) : DecodedRecord :=
  branchRecord f 1#1 e d disp .bext

/-- BEXT (42_decode_opcodes.md R257). -/
def execBext (d : Direction) (e : BitVec 4) (disp : Word) (s : State) : Host.Outcome State Fault Refusal :=
  runRecord (recBext d e disp s.fetch) s

end Sys2Proof.Machine
end

