-- ==== Sys2Proof/Machine/Direct.lean ====
section
/-! DEFINITION. The meanings of the DIR_2OP format: what each
instruction decodes to, and the transaction that caches and returns it (42_decode_opcodes.md, log 20). -/

namespace Sys2Proof.Machine

/-- The record of MVO (42_decode_opcodes.md R258). -/
def recMvo (r : BitVec 3) (ea : Word) (f : Fetch) : DecodedRecord :=
  directRecord f 1 r ea .mvo

/-- MVO (42_decode_opcodes.md R258). -/
def execMvo (r : BitVec 3) (ea : Word) (s : State) : Host.Outcome State Fault Refusal :=
  runRecord (recMvo r ea s.fetch) s

/-- The record of MVI (42_decode_opcodes.md R259). -/
def recMvi (r : BitVec 3) (ea : Word) (f : Fetch) : DecodedRecord :=
  directRecord f 2 r ea .mvi

/-- MVI (42_decode_opcodes.md R259). -/
def execMvi (r : BitVec 3) (ea : Word) (s : State) : Host.Outcome State Fault Refusal :=
  runRecord (recMvi r ea s.fetch) s

/-- The record of ADD (42_decode_opcodes.md R260). -/
def recAdd (r : BitVec 3) (ea : Word) (f : Fetch) : DecodedRecord :=
  directRecord f 3 r ea .add

/-- ADD (42_decode_opcodes.md R260). -/
def execAdd (r : BitVec 3) (ea : Word) (s : State) : Host.Outcome State Fault Refusal :=
  runRecord (recAdd r ea s.fetch) s

/-- The record of SUB (42_decode_opcodes.md R261). -/
def recSub (r : BitVec 3) (ea : Word) (f : Fetch) : DecodedRecord :=
  directRecord f 4 r ea .sub

/-- SUB (42_decode_opcodes.md R261). -/
def execSub (r : BitVec 3) (ea : Word) (s : State) : Host.Outcome State Fault Refusal :=
  runRecord (recSub r ea s.fetch) s

/-- The record of CMP (42_decode_opcodes.md R262). -/
def recCmp (r : BitVec 3) (ea : Word) (f : Fetch) : DecodedRecord :=
  directRecord f 5 r ea .cmp

/-- CMP (42_decode_opcodes.md R262). -/
def execCmp (r : BitVec 3) (ea : Word) (s : State) : Host.Outcome State Fault Refusal :=
  runRecord (recCmp r ea s.fetch) s

/-- The record of AND (42_decode_opcodes.md R263). -/
def recAnd (r : BitVec 3) (ea : Word) (f : Fetch) : DecodedRecord :=
  directRecord f 6 r ea .and

/-- AND (42_decode_opcodes.md R263). -/
def execAnd (r : BitVec 3) (ea : Word) (s : State) : Host.Outcome State Fault Refusal :=
  runRecord (recAnd r ea s.fetch) s

/-- The record of XOR (42_decode_opcodes.md R264). -/
def recXor (r : BitVec 3) (ea : Word) (f : Fetch) : DecodedRecord :=
  directRecord f 7 r ea .xor

/-- XOR (42_decode_opcodes.md R264). -/
def execXor (r : BitVec 3) (ea : Word) (s : State) : Host.Outcome State Fault Refusal :=
  runRecord (recXor r ea s.fetch) s

end Sys2Proof.Machine
end

