-- ==== Sys2Proof/Machine/Immediate.lean ====
section
/-! DEFINITION. The meanings of the IMM_2OP format: what each
instruction decodes to, and the transaction that caches and returns it (42_decode_opcodes.md, log 20). -/

namespace Sys2Proof.Machine

/-- The record of MVOI (42_decode_opcodes.md R272). -/
def recMvoi (r : BitVec 3) (imm : Word) (f : Fetch) : DecodedRecord :=
  immediateRecord f 1 r imm .mvo

/-- MVOI (42_decode_opcodes.md R272). -/
def execMvoi (r : BitVec 3) (imm : Word) (s : State) : Host.Outcome State Fault Refusal :=
  runRecord (recMvoi r imm s.fetch) s

/-- The record of MVII (42_decode_opcodes.md R273). -/
def recMvii (r : BitVec 3) (imm : Word) (f : Fetch) : DecodedRecord :=
  immediateRecord f 2 r imm .mvi

/-- MVII (42_decode_opcodes.md R273). -/
def execMvii (r : BitVec 3) (imm : Word) (s : State) : Host.Outcome State Fault Refusal :=
  runRecord (recMvii r imm s.fetch) s

/-- The record of ADDI (42_decode_opcodes.md R274). -/
def recAddi (r : BitVec 3) (imm : Word) (f : Fetch) : DecodedRecord :=
  immediateRecord f 3 r imm .add

/-- ADDI (42_decode_opcodes.md R274). -/
def execAddi (r : BitVec 3) (imm : Word) (s : State) : Host.Outcome State Fault Refusal :=
  runRecord (recAddi r imm s.fetch) s

/-- The record of SUBI (42_decode_opcodes.md R275). -/
def recSubi (r : BitVec 3) (imm : Word) (f : Fetch) : DecodedRecord :=
  immediateRecord f 4 r imm .sub

/-- SUBI (42_decode_opcodes.md R275). -/
def execSubi (r : BitVec 3) (imm : Word) (s : State) : Host.Outcome State Fault Refusal :=
  runRecord (recSubi r imm s.fetch) s

/-- The record of CMPI (42_decode_opcodes.md R276). -/
def recCmpi (r : BitVec 3) (imm : Word) (f : Fetch) : DecodedRecord :=
  immediateRecord f 5 r imm .cmp

/-- CMPI (42_decode_opcodes.md R276). -/
def execCmpi (r : BitVec 3) (imm : Word) (s : State) : Host.Outcome State Fault Refusal :=
  runRecord (recCmpi r imm s.fetch) s

/-- The record of ANDI (42_decode_opcodes.md R277). -/
def recAndi (r : BitVec 3) (imm : Word) (f : Fetch) : DecodedRecord :=
  immediateRecord f 6 r imm .and

/-- ANDI (42_decode_opcodes.md R277). -/
def execAndi (r : BitVec 3) (imm : Word) (s : State) : Host.Outcome State Fault Refusal :=
  runRecord (recAndi r imm s.fetch) s

/-- The record of XORI (42_decode_opcodes.md R278). -/
def recXori (r : BitVec 3) (imm : Word) (f : Fetch) : DecodedRecord :=
  immediateRecord f 7 r imm .xor

/-- XORI (42_decode_opcodes.md R278). -/
def execXori (r : BitVec 3) (imm : Word) (s : State) : Host.Outcome State Fault Refusal :=
  runRecord (recXori r imm s.fetch) s

end Sys2Proof.Machine
end

