-- ==== Sys2Proof/Machine/Implied.lean ====
section
/-! DEFINITION. The meanings of the IMPL_1OP_A and IMPL_1OP_B formats: what each
instruction decodes to, and the transaction that caches and returns it (42_decode_opcodes.md, log 20). -/

namespace Sys2Proof.Machine

/-- The record of HLT (42_decode_opcodes.md R201). -/
def recHlt (f : Fetch) : DecodedRecord :=
  impliedARecord f 0 .hlt

/-- HLT (42_decode_opcodes.md R201). -/
def execHlt (s : State) : Host.Outcome State Fault Refusal :=
  runRecord (recHlt s.fetch) s

/-- The record of SDBD (42_decode_opcodes.md R202). -/
def recSdbd (f : Fetch) : DecodedRecord :=
  impliedARecord f 1 .sdbd

/-- SDBD (42_decode_opcodes.md R202). -/
def execSdbd (s : State) : Host.Outcome State Fault Refusal :=
  runRecord (recSdbd s.fetch) s

/-- The record of EIS (42_decode_opcodes.md R203). -/
def recEis (f : Fetch) : DecodedRecord :=
  impliedARecord f 2 .eis

/-- EIS (42_decode_opcodes.md R203). -/
def execEis (s : State) : Host.Outcome State Fault Refusal :=
  runRecord (recEis s.fetch) s

/-- The record of DIS (42_decode_opcodes.md R204). -/
def recDis (f : Fetch) : DecodedRecord :=
  impliedARecord f 3 .dis

/-- DIS (42_decode_opcodes.md R204). -/
def execDis (s : State) : Host.Outcome State Fault Refusal :=
  runRecord (recDis s.fetch) s

/-- The record of TCI (42_decode_opcodes.md R205). -/
def recTci (f : Fetch) : DecodedRecord :=
  impliedBRecord f 5 .tci

/-- TCI (42_decode_opcodes.md R205). -/
def execTci (s : State) : Host.Outcome State Fault Refusal :=
  runRecord (recTci s.fetch) s

/-- The record of CLRC (42_decode_opcodes.md R206). -/
def recClrc (f : Fetch) : DecodedRecord :=
  impliedBRecord f 6 .clrc

/-- CLRC (42_decode_opcodes.md R206). -/
def execClrc (s : State) : Host.Outcome State Fault Refusal :=
  runRecord (recClrc s.fetch) s

/-- The record of SETC (42_decode_opcodes.md R207). -/
def recSetc (f : Fetch) : DecodedRecord :=
  impliedBRecord f 7 .setc

/-- SETC (42_decode_opcodes.md R207). -/
def execSetc (s : State) : Host.Outcome State Fault Refusal :=
  runRecord (recSetc s.fetch) s

end Sys2Proof.Machine
end

