-- ==== Sys2Proof/Machine/Indirect.lean ====
section
/-! DEFINITION. The meanings of the IND_2OP format: what each
instruction decodes to, and the transaction that caches and returns it (42_decode_opcodes.md, log 20). -/

namespace Sys2Proof.Machine

/-- The record of MVO@ (42_decode_opcodes.md R265). -/
def recMvoInd (m r : BitVec 3) (f : Fetch) : DecodedRecord :=
  indirectRecord f 1 m r .mvo

/-- MVO@ (42_decode_opcodes.md R265). -/
def execMvoInd (m r : BitVec 3) (s : State) : Host.Outcome State Fault Refusal :=
  runRecord (recMvoInd m r s.fetch) s

/-- The record of MVI@ (42_decode_opcodes.md R266). -/
def recMviInd (m r : BitVec 3) (f : Fetch) : DecodedRecord :=
  indirectRecord f 2 m r .mvi

/-- MVI@ (42_decode_opcodes.md R266). -/
def execMviInd (m r : BitVec 3) (s : State) : Host.Outcome State Fault Refusal :=
  runRecord (recMviInd m r s.fetch) s

/-- The record of ADD@ (42_decode_opcodes.md R267). -/
def recAddInd (m r : BitVec 3) (f : Fetch) : DecodedRecord :=
  indirectRecord f 3 m r .add

/-- ADD@ (42_decode_opcodes.md R267). -/
def execAddInd (m r : BitVec 3) (s : State) : Host.Outcome State Fault Refusal :=
  runRecord (recAddInd m r s.fetch) s

/-- The record of SUB@ (42_decode_opcodes.md R268). -/
def recSubInd (m r : BitVec 3) (f : Fetch) : DecodedRecord :=
  indirectRecord f 4 m r .sub

/-- SUB@ (42_decode_opcodes.md R268). -/
def execSubInd (m r : BitVec 3) (s : State) : Host.Outcome State Fault Refusal :=
  runRecord (recSubInd m r s.fetch) s

/-- The record of CMP@ (42_decode_opcodes.md R269). -/
def recCmpInd (m r : BitVec 3) (f : Fetch) : DecodedRecord :=
  indirectRecord f 5 m r .cmp

/-- CMP@ (42_decode_opcodes.md R269). -/
def execCmpInd (m r : BitVec 3) (s : State) : Host.Outcome State Fault Refusal :=
  runRecord (recCmpInd m r s.fetch) s

/-- The record of AND@ (42_decode_opcodes.md R270). -/
def recAndInd (m r : BitVec 3) (f : Fetch) : DecodedRecord :=
  indirectRecord f 6 m r .and

/-- AND@ (42_decode_opcodes.md R270). -/
def execAndInd (m r : BitVec 3) (s : State) : Host.Outcome State Fault Refusal :=
  runRecord (recAndInd m r s.fetch) s

/-- The record of XOR@ (42_decode_opcodes.md R271). -/
def recXorInd (m r : BitVec 3) (f : Fetch) : DecodedRecord :=
  indirectRecord f 7 m r .xor

/-- XOR@ (42_decode_opcodes.md R271). -/
def execXorInd (m r : BitVec 3) (s : State) : Host.Outcome State Fault Refusal :=
  runRecord (recXorInd m r s.fetch) s

end Sys2Proof.Machine
end

