-- ==== Sys2Proof/Machine/Jump.lean ====
section
/-! DEFINITION. The meanings of the JSR format: what each
instruction decodes to, and the transaction that caches and returns it (42_decode_opcodes.md, log 20). -/

namespace Sys2Proof.Machine

/-- The record of J (42_decode_opcodes.md R233). -/
def recJ (t : Word) (f : Fetch) : DecodedRecord :=
  jumpRecord f 0 7 t .j

/-- J (42_decode_opcodes.md R233). -/
def execJ (t : Word) (s : State) : Host.Outcome State Fault Refusal :=
  runRecord (recJ t s.fetch) s

/-- The record of JE (42_decode_opcodes.md R234). -/
def recJe (t : Word) (f : Fetch) : DecodedRecord :=
  jumpRecord f 1 7 t .je

/-- JE (42_decode_opcodes.md R234). -/
def execJe (t : Word) (s : State) : Host.Outcome State Fault Refusal :=
  runRecord (recJe t s.fetch) s

/-- The record of JD (42_decode_opcodes.md R235). -/
def recJd (t : Word) (f : Fetch) : DecodedRecord :=
  jumpRecord f 2 7 t .jd

/-- JD (42_decode_opcodes.md R235). -/
def execJd (t : Word) (s : State) : Host.Outcome State Fault Refusal :=
  runRecord (recJd t s.fetch) s

/-- The record of J_RSV (42_decode_opcodes.md R239). -/
def recJRsv (t : Word) (f : Fetch) : DecodedRecord :=
  jumpRecord f 3 7 t .jRsv

/-- J_RSV (42_decode_opcodes.md R239). -/
def execJRsv (t : Word) (s : State) : Host.Outcome State Fault Refusal :=
  runRecord (recJRsv t s.fetch) s

/-- The record of JSR (42_decode_opcodes.md R236). -/
def recJsr (rr : BitVec 2) (t : Word) (f : Fetch) : DecodedRecord :=
  jumpRecord f 0 (saveRegister rr) t .jsr

/-- JSR (42_decode_opcodes.md R236). -/
def execJsr (rr : BitVec 2) (t : Word) (s : State) : Host.Outcome State Fault Refusal :=
  runRecord (recJsr rr t s.fetch) s

/-- The record of JSRE (42_decode_opcodes.md R237). -/
def recJsre (rr : BitVec 2) (t : Word) (f : Fetch) : DecodedRecord :=
  jumpRecord f 1 (saveRegister rr) t .jsre

/-- JSRE (42_decode_opcodes.md R237). -/
def execJsre (rr : BitVec 2) (t : Word) (s : State) : Host.Outcome State Fault Refusal :=
  runRecord (recJsre rr t s.fetch) s

/-- The record of JSRD (42_decode_opcodes.md R238). -/
def recJsrd (rr : BitVec 2) (t : Word) (f : Fetch) : DecodedRecord :=
  jumpRecord f 2 (saveRegister rr) t .jsrd

/-- JSRD (42_decode_opcodes.md R238). -/
def execJsrd (rr : BitVec 2) (t : Word) (s : State) : Host.Outcome State Fault Refusal :=
  runRecord (recJsrd rr t s.fetch) s

/-- The record of JSR_RSV (42_decode_opcodes.md R239). -/
def recJsrRsv (rr : BitVec 2) (t : Word) (f : Fetch) : DecodedRecord :=
  jumpRecord f 3 (saveRegister rr) t .jsrRsv

/-- JSR_RSV (42_decode_opcodes.md R239). -/
def execJsrRsv (rr : BitVec 2) (t : Word) (s : State) : Host.Outcome State Fault Refusal :=
  runRecord (recJsrRsv rr t s.fetch) s

end Sys2Proof.Machine
end

