-- ==== Sys2Proof/Machine/Reg1.lean ====
section
/-! DEFINITION. The meanings of the REG_1OP, GSWD and NOP_SIN formats: what each
instruction decodes to, and the transaction that caches and returns it (42_decode_opcodes.md, log 20). -/

namespace Sys2Proof.Machine

/-- The record of INCR (42_decode_opcodes.md R208). -/
def recIncr (n : BitVec 3) (f : Fetch) : DecodedRecord :=
  reg1Record f 1 n .incr

/-- INCR (42_decode_opcodes.md R208). -/
def execIncr (n : BitVec 3) (s : State) : Host.Outcome State Fault Refusal :=
  runRecord (recIncr n s.fetch) s

/-- The record of DECR (42_decode_opcodes.md R209). -/
def recDecr (n : BitVec 3) (f : Fetch) : DecodedRecord :=
  reg1Record f 2 n .decr

/-- DECR (42_decode_opcodes.md R209). -/
def execDecr (n : BitVec 3) (s : State) : Host.Outcome State Fault Refusal :=
  runRecord (recDecr n s.fetch) s

/-- The record of COMR (42_decode_opcodes.md R210). -/
def recComr (n : BitVec 3) (f : Fetch) : DecodedRecord :=
  reg1Record f 3 n .comr

/-- COMR (42_decode_opcodes.md R210). -/
def execComr (n : BitVec 3) (s : State) : Host.Outcome State Fault Refusal :=
  runRecord (recComr n s.fetch) s

/-- The record of NEGR (42_decode_opcodes.md R211). -/
def recNegr (n : BitVec 3) (f : Fetch) : DecodedRecord :=
  reg1Record f 4 n .negr

/-- NEGR (42_decode_opcodes.md R211). -/
def execNegr (n : BitVec 3) (s : State) : Host.Outcome State Fault Refusal :=
  runRecord (recNegr n s.fetch) s

/-- The record of ADCR (42_decode_opcodes.md R212). -/
def recAdcr (n : BitVec 3) (f : Fetch) : DecodedRecord :=
  reg1Record f 5 n .adcr

/-- ADCR (42_decode_opcodes.md R212). -/
def execAdcr (n : BitVec 3) (s : State) : Host.Outcome State Fault Refusal :=
  runRecord (recAdcr n s.fetch) s

/-- The record of RSWD (42_decode_opcodes.md R213). -/
def recRswd (n : BitVec 3) (f : Fetch) : DecodedRecord :=
  reg1Record f 7 n .rswd

/-- RSWD (42_decode_opcodes.md R213). -/
def execRswd (n : BitVec 3) (s : State) : Host.Outcome State Fault Refusal :=
  runRecord (recRswd n s.fetch) s

/-- The record of GSWD (42_decode_opcodes.md R214). -/
def recGswd (n : BitVec 2) (f : Fetch) : DecodedRecord :=
  recordOfFetch f .gswd 6 (lowRegNumber n) 0 0#16 0#16 .gswd

/-- GSWD (42_decode_opcodes.md R214). -/
def execGswd (n : BitVec 2) (s : State) : Host.Outcome State Fault Refusal :=
  runRecord (recGswd n s.fetch) s

/-- The record of NOP (42_decode_opcodes.md R215). -/
def recNop (b : BitVec 1) (f : Fetch) : DecodedRecord :=
  nopSinRecord f 0 b .nop

/-- NOP (42_decode_opcodes.md R215). -/
def execNop (b : BitVec 1) (s : State) : Host.Outcome State Fault Refusal :=
  runRecord (recNop b s.fetch) s

/-- The record of SIN (42_decode_opcodes.md R216). -/
def recSin (b : BitVec 1) (f : Fetch) : DecodedRecord :=
  nopSinRecord f 1 b .sin

/-- SIN (42_decode_opcodes.md R216). -/
def execSin (b : BitVec 1) (s : State) : Host.Outcome State Fault Refusal :=
  runRecord (recSin b s.fetch) s

end Sys2Proof.Machine
end

