-- ==== Sys2Proof/Machine/Reg2.lean ====
section
/-! DEFINITION. The meanings of the REG_2OP format: what each
instruction decodes to, and the transaction that caches and returns it (42_decode_opcodes.md, log 20). -/

namespace Sys2Proof.Machine

/-- The record of MOVR (42_decode_opcodes.md R226). -/
def recMovr (src dst : BitVec 3) (f : Fetch) : DecodedRecord :=
  reg2Record f 2 src dst .movr

/-- MOVR (42_decode_opcodes.md R226). -/
def execMovr (src dst : BitVec 3) (s : State) : Host.Outcome State Fault Refusal :=
  runRecord (recMovr src dst s.fetch) s

/-- The record of TSTR, op stays 2 (42_decode_opcodes.md R227). -/
def recTstr (n : BitVec 3) (f : Fetch) : DecodedRecord :=
  reg2Record f 2 n n .tstr

/-- TSTR, op stays 2 (42_decode_opcodes.md R227). -/
def execTstr (n : BitVec 3) (s : State) : Host.Outcome State Fault Refusal :=
  runRecord (recTstr n s.fetch) s

/-- The record of ADDR (42_decode_opcodes.md R228). -/
def recAddr (src dst : BitVec 3) (f : Fetch) : DecodedRecord :=
  reg2Record f 3 src dst .addr

/-- ADDR (42_decode_opcodes.md R228). -/
def execAddr (src dst : BitVec 3) (s : State) : Host.Outcome State Fault Refusal :=
  runRecord (recAddr src dst s.fetch) s

/-- The record of SUBR (42_decode_opcodes.md R229). -/
def recSubr (src dst : BitVec 3) (f : Fetch) : DecodedRecord :=
  reg2Record f 4 src dst .subr

/-- SUBR (42_decode_opcodes.md R229). -/
def execSubr (src dst : BitVec 3) (s : State) : Host.Outcome State Fault Refusal :=
  runRecord (recSubr src dst s.fetch) s

/-- The record of CMPR (42_decode_opcodes.md R230). -/
def recCmpr (src dst : BitVec 3) (f : Fetch) : DecodedRecord :=
  reg2Record f 5 src dst .cmpr

/-- CMPR (42_decode_opcodes.md R230). -/
def execCmpr (src dst : BitVec 3) (s : State) : Host.Outcome State Fault Refusal :=
  runRecord (recCmpr src dst s.fetch) s

/-- The record of ANDR (42_decode_opcodes.md R231). -/
def recAndr (src dst : BitVec 3) (f : Fetch) : DecodedRecord :=
  reg2Record f 6 src dst .andr

/-- ANDR (42_decode_opcodes.md R231). -/
def execAndr (src dst : BitVec 3) (s : State) : Host.Outcome State Fault Refusal :=
  runRecord (recAndr src dst s.fetch) s

/-- The record of XORR (42_decode_opcodes.md R232). -/
def recXorr (src dst : BitVec 3) (f : Fetch) : DecodedRecord :=
  reg2Record f 7 src dst .xorr

/-- XORR (42_decode_opcodes.md R232). -/
def execXorr (src dst : BitVec 3) (s : State) : Host.Outcome State Fault Refusal :=
  runRecord (recXorr src dst s.fetch) s

end Sys2Proof.Machine
end

