-- ==== Sys2Proof/Machine/Rotate.lean ====
section
/-! DEFINITION. The meanings of the ROT_1OP format: what each
instruction decodes to, and the transaction that caches and returns it (42_decode_opcodes.md, log 20). -/

namespace Sys2Proof.Machine

/-- The record of SWAP (42_decode_opcodes.md R217). -/
def recSwap (n : BitVec 2) (k : BitVec 1) (f : Fetch) : DecodedRecord :=
  rotateRecord f 0 n k .swap

/-- SWAP (42_decode_opcodes.md R217). -/
def execSwap (n : BitVec 2) (k : BitVec 1) (s : State) : Host.Outcome State Fault Refusal :=
  runRecord (recSwap n k s.fetch) s

/-- The record of SLL (42_decode_opcodes.md R218). -/
def recSll (n : BitVec 2) (k : BitVec 1) (f : Fetch) : DecodedRecord :=
  rotateRecord f 1 n k .sll

/-- SLL (42_decode_opcodes.md R218). -/
def execSll (n : BitVec 2) (k : BitVec 1) (s : State) : Host.Outcome State Fault Refusal :=
  runRecord (recSll n k s.fetch) s

/-- The record of RLC (42_decode_opcodes.md R219). -/
def recRlc (n : BitVec 2) (k : BitVec 1) (f : Fetch) : DecodedRecord :=
  rotateRecord f 2 n k .rlc

/-- RLC (42_decode_opcodes.md R219). -/
def execRlc (n : BitVec 2) (k : BitVec 1) (s : State) : Host.Outcome State Fault Refusal :=
  runRecord (recRlc n k s.fetch) s

/-- The record of SLLC (42_decode_opcodes.md R220). -/
def recSllc (n : BitVec 2) (k : BitVec 1) (f : Fetch) : DecodedRecord :=
  rotateRecord f 3 n k .sllc

/-- SLLC (42_decode_opcodes.md R220). -/
def execSllc (n : BitVec 2) (k : BitVec 1) (s : State) : Host.Outcome State Fault Refusal :=
  runRecord (recSllc n k s.fetch) s

/-- The record of SLR (42_decode_opcodes.md R221). -/
def recSlr (n : BitVec 2) (k : BitVec 1) (f : Fetch) : DecodedRecord :=
  rotateRecord f 4 n k .slr

/-- SLR (42_decode_opcodes.md R221). -/
def execSlr (n : BitVec 2) (k : BitVec 1) (s : State) : Host.Outcome State Fault Refusal :=
  runRecord (recSlr n k s.fetch) s

/-- The record of SAR (42_decode_opcodes.md R222). -/
def recSar (n : BitVec 2) (k : BitVec 1) (f : Fetch) : DecodedRecord :=
  rotateRecord f 5 n k .sar

/-- SAR (42_decode_opcodes.md R222). -/
def execSar (n : BitVec 2) (k : BitVec 1) (s : State) : Host.Outcome State Fault Refusal :=
  runRecord (recSar n k s.fetch) s

/-- The record of RRC (42_decode_opcodes.md R223). -/
def recRrc (n : BitVec 2) (k : BitVec 1) (f : Fetch) : DecodedRecord :=
  rotateRecord f 6 n k .rrc

/-- RRC (42_decode_opcodes.md R223). -/
def execRrc (n : BitVec 2) (k : BitVec 1) (s : State) : Host.Outcome State Fault Refusal :=
  runRecord (recRrc n k s.fetch) s

/-- The record of SARC (42_decode_opcodes.md R224). -/
def recSarc (n : BitVec 2) (k : BitVec 1) (f : Fetch) : DecodedRecord :=
  rotateRecord f 7 n k .sarc

/-- SARC (42_decode_opcodes.md R224). -/
def execSarc (n : BitVec 2) (k : BitVec 1) (s : State) : Host.Outcome State Fault Refusal :=
  runRecord (recSarc n k s.fetch) s

end Sys2Proof.Machine
end

