-- ==== Sys2Proof/Machine/Decoder.lean ====
section
/-! DEFINITION. The decoder: fetching an instruction's words over the bus, the record of each instruction, the
cache lookup with its check, and the meaning of DECODE (41_decode.md). -/

namespace Sys2Proof.Machine

/-! ### The combinational core -/

/-- The record of a decoded instruction, EXTRACT_ALL: a function of the instruction and the fetched words alone
(41_decode.md R177); none for a term that is no instruction of the CP-1610. -/
def recordOf (i : Instr) (f : Fetch) : Option DecodedRecord :=
  match i with
  | .hlt => some (recHlt f)
  | .sdbd => some (recSdbd f)
  | .eis => some (recEis f)
  | .dis => some (recDis f)
  | .tci => some (recTci f)
  | .clrc => some (recClrc f)
  | .setc => some (recSetc f)
  | .incr n => some (recIncr n f)
  | .decr n => some (recDecr n f)
  | .comr n => some (recComr n f)
  | .negr n => some (recNegr n f)
  | .adcr n => some (recAdcr n f)
  | .rswd n => some (recRswd n f)
  | .gswd n => some (recGswd n f)
  | .nop b => some (recNop b f)
  | .sin b => some (recSin b f)
  | .swap n k => some (recSwap n k f)
  | .sll n k => some (recSll n k f)
  | .rlc n k => some (recRlc n k f)
  | .sllc n k => some (recSllc n k f)
  | .slr n k => some (recSlr n k f)
  | .sar n k => some (recSar n k f)
  | .rrc n k => some (recRrc n k f)
  | .sarc n k => some (recSarc n k f)
  | .movr src dst => some (recMovr src dst f)
  | .tstr n => some (recTstr n f)
  | .addr src dst => some (recAddr src dst f)
  | .subr src dst => some (recSubr src dst f)
  | .cmpr src dst => some (recCmpr src dst f)
  | .andr src dst => some (recAndr src dst f)
  | .xorr src dst => some (recXorr src dst f)
  | .j t => some (recJ t f)
  | .je t => some (recJe t f)
  | .jd t => some (recJd t f)
  | .jRsv t => some (recJRsv t f)
  | .jsr rr t => some (recJsr rr t f)
  | .jsre rr t => some (recJsre rr t f)
  | .jsrd rr t => some (recJsrd rr t f)
  | .jsrRsv rr t => some (recJsrRsv rr t f)
  | .b d disp => some (recB d disp f)
  | .bc d disp => some (recBc d disp f)
  | .bov d disp => some (recBov d disp f)
  | .bpl d disp => some (recBpl d disp f)
  | .beq d disp => some (recBeq d disp f)
  | .blt d disp => some (recBlt d disp f)
  | .ble d disp => some (recBle d disp f)
  | .busc d disp => some (recBusc d disp f)
  | .nopp d disp => some (recNopp d disp f)
  | .bnc d disp => some (recBnc d disp f)
  | .bnov d disp => some (recBnov d disp f)
  | .bmi d disp => some (recBmi d disp f)
  | .bneq d disp => some (recBneq d disp f)
  | .bge d disp => some (recBge d disp f)
  | .bgt d disp => some (recBgt d disp f)
  | .besc d disp => some (recBesc d disp f)
  | .bext d e disp => some (recBext d e disp f)
  | .mvo r ea => some (recMvo r ea f)
  | .mvi r ea => some (recMvi r ea f)
  | .add r ea => some (recAdd r ea f)
  | .sub r ea => some (recSub r ea f)
  | .cmp r ea => some (recCmp r ea f)
  | .and r ea => some (recAnd r ea f)
  | .xor r ea => some (recXor r ea f)
  | .mvoInd m r => some (recMvoInd m r f)
  | .mviInd m r => some (recMviInd m r f)
  | .addInd m r => some (recAddInd m r f)
  | .subInd m r => some (recSubInd m r f)
  | .cmpInd m r => some (recCmpInd m r f)
  | .andInd m r => some (recAndInd m r f)
  | .xorInd m r => some (recXorInd m r f)
  | .mvoi r imm => some (recMvoi r imm f)
  | .mvii r imm => some (recMvii r imm f)
  | .addi r imm => some (recAddi r imm f)
  | .subi r imm => some (recSubi r imm f)
  | .cmpi r imm => some (recCmpi r imm f)
  | .andi r imm => some (recAndi r imm f)
  | .xori r imm => some (recXori r imm f)
  | .busRead _ _ | .busWrite _ _ | .bankswitch _ _ _ | .pageFlip _ _ | .mapSet _ _ _ | .permSet _ _ _
  | .pflSet _ _ _ | .jlpUnlock _ | .jlpLock _ | .jlpSgAddr _ | .jlpSgRow _ | .jlpRamToFlash _
  | .jlpFlashToRam _ | .jlpSectorErase _ | .jlpMulSs _ _ | .jlpMulSu _ _ | .jlpMulUs _ _ | .jlpMulUu _ _
  | .jlpDivSs _ _ | .jlpDivUu _ _ | .jlpRegWrite _ _ | .jlpRegRead _ _ | .jlpExtReg _ _ | .jlpCrcFold _
  | .jlpCrcAccess _ | .jlpRandom _ | .decode _ | .invalidate _ _ | .reset | .tick _
  | .crcUpdateByteRight _ _ _ _ | .crcUpdateByteLeft _ _ _ _ | .crcUpdateBlock _ _ _ _ _
  | .crc16Fold _ _ => none

/-! ### Fetching over the bus -/

/-- What the fetches of a decode end in: the words, or the hand-over to the hook (41_decode.md R160, R161). -/
inductive Fetched where
  | hook
  | words (f : Fetch)
  deriving DecidableEq, Repr

/-- The words after the first, by the length: `a + 1`, then `a + 2` (41_decode.md R165). -/
def fetchRest (a : Word) (len : Nat) (s : State) : Res (List Word) :=
  if len = 1 then .ok [] s
  else
    (busRead (a + 1#16) false s).andThen fun w2 s =>
      if len = 2 then .ok [w2] s
      else (busRead (a + 2#16) false s).andThen fun w3 s => .ok [w2, w3] s

/-- The bus reads of a decode in their order: `a`, `a - 1`, `a + 1`, `a + 2`. A first word with bits above the
opcode is handed to the hook, or is a WeedsFault, before any other read (41_decode.md R161, R162, R165, R170). -/
def fetchWords (a : Word) (s : State) : Res Fetched :=
  (busRead a false s).andThen fun w1 s =>
    if isWeeds w1 then
      (if s.params.hookPresent then .ok .hook s else .raise (.weeds a w1) s)
    else
      (busRead (a - 1#16) false s).andThen fun lookback s =>
        (fetchRest a (instrLength (prevIsSdbd lookback) w1) s).andThen fun ws s =>
          .ok (.words ⟨a, lookback, w1 :: ws⟩) s

/-- The record of fetched words. No gap of the opcode space is reachable (60_exceptions.md R403): the last case
stands for totality only. -/
def recordOfWords (f : Fetch) : Option DecodedRecord :=
  match decodeWords (prevIsSdbd f.lookback) f.words with
  | .ok (i, _) => recordOf i f
  | .error _ => none

/-- `decode_miss` (41_decode.md R170). -/
def decodeMiss (a : Word) (s : State) : Host.Outcome State Fault Refusal :=
  match fetchWords a s with
  | .raise r s => takeFault r s
  | .refuse r => .refused r
  | .ok .hook s => .next { s with response := .hookTransfer a }
  | .ok (.words f) s =>
    match recordOfWords f with
    | some r => .next (commitRecord r s)
    | none => takeFault (.weeds a (f.words.headD 0#16)) s

/-! ### The cache -/

/-- A word the bus shows now equals a word of the record; false where either is missing (41_decode.md R172). -/
def sameWord (now : Option Word) (old : Option Word) : Bool :=
  match now, old with
  | some w, some w' => w == w'
  | _, _ => false

/-- The check on a cache hit: every cached word and the lookback against the bus as it is now (41_decode.md
R172). -/
def freshRecord (a : Word) (r : DecodedRecord) (s : State) : Bool :=
  ((List.range r.len).all fun i => sameWord (peek s (a + BitVec.ofNat 16 i)) r.words[i]?) &&
    (peek s (a - 1#16)).map prevIsSdbd == some r.sdbd

/-- DECODE: a cached record that the check passes is returned with no bus read, one that it does not pass is
refused, and an undecoded address is decoded (41_decode.md R171, R172, 60_exceptions.md R404). -/
def execDecode (a : Word) (s : State) : Host.Outcome State Fault Refusal :=
  running s <|
    match cached s a with
    | some r =>
      if freshRecord a r s then .next { s with response := .record r } else .refused (.staleDecode a)
    | none => decodeMiss a s

/-- The binding a record gives whoever executes it; the two reserved jump bindings have no execution meaning
(60_exceptions.md R405, log 21). -/
def executionBinding (r : DecodedRecord) : Except Refusal Binding :=
  match r.binding with
  | .jsr .jRsv | .jsr .jsrRsv => .error (.reservedEncoding r.addr)
  | b => .ok b

end Sys2Proof.Machine
end

