-- ==== Sys2Proof/Machine/Maintenance.lean ====
section
/-! DEFINITION. The meanings of the operations with no bus address: INVALIDATE, RESET and TICK, and the stored
form of the reset tables. -/

namespace Sys2Proof.Machine

/-- INVALIDATE, as the caller's own operation (41_decode.md R174). -/
def execInvalidate (lo hi : Word) (s : State) : Host.Outcome State Fault Refusal :=
  running s (.next { invalidateRange lo hi s with response := .done })

/-- The accelerator mode turns it on at reset (70_reset_and_hazards.md R430). -/
def autoEnabled (p : Params) : Bool := p.jlpMode == .accelOn || p.jlpMode == .accelFlashOn

/-- `reset()` (70_reset_and_hazards.md R430). -/
def resetBlock (s : State) : State :=
  let s := { s with
    memMapAct := s.memMapRst
    memPermAct := s.memPermRst
    bsel := Vector.replicate (2 ^ 4) 0#4
    jlpAccelOn := false }
  let s := if autoEnabled s.params then jlpTurnOn s else s
  invalidateRange 0x0000#16 0xFFFF#16
    { s with ltoIsaEnabled := s.params.jlpMode != .disabled || ltoMapper s }

/-- RESET (70_reset_and_hazards.md R430). -/
def execReset (s : State) : Host.Outcome State Fault Refusal :=
  running s (.next { resetBlock s with response := .done })

/-- TICK: refused while TICK_DECREMENT is not supplied (60_exceptions.md R406, R410). -/
def execTick (n : Nat) (s : State) : Host.Outcome State Fault Refusal :=
  running s <|
    match s.params.tickDecrement with
    | none => .refused (.parameterOpen .tickDecrement)
    | some d => .next { s with jlpSleep := s.jlpSleep - n * d, response := .done }

/-- A word as two bytes, the low one first (20_memory.md R71). -/
def bytesOfWord (w : Word) : List Byte := [w.extractLsb' 0 8, w.extractLsb' 8 8]

/-- A page-flip entry packed as the mapper's default packing has it (30_encoding.md R118). -/
def packPageEntry (map : BitVec 12) (perm : BitVec 4) : Word := perm ++ map

/-- The LUIGI memory-map table: the reset map, the reset permissions in low nibbles, the page-flip table; 1280
bytes (30_encoding.md R121, log 24). -/
def luigiTable (s : State) : List Byte :=
  s.memMapRst.toList.flatMap bytesOfWord ++
    s.memPermRst.toList.map (fun q => q.setWidth 8) ++
    ((s.pflMap.toList.zip s.pflPerm.toList).map fun e => packPageEntry e.1 e.2).flatMap bytesOfWord

end Sys2Proof.Machine
end

