-- ==== Sys2Proof/Machine/Dispatch.lean ====
section
/-! DEFINITION. One arm per constructor of `Instr`, each one direct call of its meaning. -/

namespace Sys2Proof.Machine

/-- The meaning of an instruction, a bus row or an operation. -/
def exec (i : Instr) (s : State) : Host.Outcome State Fault Refusal :=
  match i with
  | .hlt => Sys2Proof.Machine.execHlt s
  | .sdbd => Sys2Proof.Machine.execSdbd s
  | .eis => Sys2Proof.Machine.execEis s
  | .dis => Sys2Proof.Machine.execDis s
  | .tci => Sys2Proof.Machine.execTci s
  | .clrc => Sys2Proof.Machine.execClrc s
  | .setc => Sys2Proof.Machine.execSetc s
  | .incr n => Sys2Proof.Machine.execIncr n s
  | .decr n => Sys2Proof.Machine.execDecr n s
  | .comr n => Sys2Proof.Machine.execComr n s
  | .negr n => Sys2Proof.Machine.execNegr n s
  | .adcr n => Sys2Proof.Machine.execAdcr n s
  | .rswd n => Sys2Proof.Machine.execRswd n s
  | .gswd n => Sys2Proof.Machine.execGswd n s
  | .nop b => Sys2Proof.Machine.execNop b s
  | .sin b => Sys2Proof.Machine.execSin b s
  | .swap n k => Sys2Proof.Machine.execSwap n k s
  | .sll n k => Sys2Proof.Machine.execSll n k s
  | .rlc n k => Sys2Proof.Machine.execRlc n k s
  | .sllc n k => Sys2Proof.Machine.execSllc n k s
  | .slr n k => Sys2Proof.Machine.execSlr n k s
  | .sar n k => Sys2Proof.Machine.execSar n k s
  | .rrc n k => Sys2Proof.Machine.execRrc n k s
  | .sarc n k => Sys2Proof.Machine.execSarc n k s
  | .movr src dst => Sys2Proof.Machine.execMovr src dst s
  | .tstr n => Sys2Proof.Machine.execTstr n s
  | .addr src dst => Sys2Proof.Machine.execAddr src dst s
  | .subr src dst => Sys2Proof.Machine.execSubr src dst s
  | .cmpr src dst => Sys2Proof.Machine.execCmpr src dst s
  | .andr src dst => Sys2Proof.Machine.execAndr src dst s
  | .xorr src dst => Sys2Proof.Machine.execXorr src dst s
  | .j t => Sys2Proof.Machine.execJ t s
  | .je t => Sys2Proof.Machine.execJe t s
  | .jd t => Sys2Proof.Machine.execJd t s
  | .jsr rr t => Sys2Proof.Machine.execJsr rr t s
  | .jsre rr t => Sys2Proof.Machine.execJsre rr t s
  | .jsrd rr t => Sys2Proof.Machine.execJsrd rr t s
  | .jRsv t => Sys2Proof.Machine.execJRsv t s
  | .jsrRsv rr t => Sys2Proof.Machine.execJsrRsv rr t s
  | .b d disp => Sys2Proof.Machine.execB d disp s
  | .bc d disp => Sys2Proof.Machine.execBc d disp s
  | .bov d disp => Sys2Proof.Machine.execBov d disp s
  | .bpl d disp => Sys2Proof.Machine.execBpl d disp s
  | .beq d disp => Sys2Proof.Machine.execBeq d disp s
  | .blt d disp => Sys2Proof.Machine.execBlt d disp s
  | .ble d disp => Sys2Proof.Machine.execBle d disp s
  | .busc d disp => Sys2Proof.Machine.execBusc d disp s
  | .nopp d disp => Sys2Proof.Machine.execNopp d disp s
  | .bnc d disp => Sys2Proof.Machine.execBnc d disp s
  | .bnov d disp => Sys2Proof.Machine.execBnov d disp s
  | .bmi d disp => Sys2Proof.Machine.execBmi d disp s
  | .bneq d disp => Sys2Proof.Machine.execBneq d disp s
  | .bge d disp => Sys2Proof.Machine.execBge d disp s
  | .bgt d disp => Sys2Proof.Machine.execBgt d disp s
  | .besc d disp => Sys2Proof.Machine.execBesc d disp s
  | .bext d e disp => Sys2Proof.Machine.execBext d e disp s
  | .mvo r ea => Sys2Proof.Machine.execMvo r ea s
  | .mvi r ea => Sys2Proof.Machine.execMvi r ea s
  | .add r ea => Sys2Proof.Machine.execAdd r ea s
  | .sub r ea => Sys2Proof.Machine.execSub r ea s
  | .cmp r ea => Sys2Proof.Machine.execCmp r ea s
  | .and r ea => Sys2Proof.Machine.execAnd r ea s
  | .xor r ea => Sys2Proof.Machine.execXor r ea s
  | .mvoInd m r => Sys2Proof.Machine.execMvoInd m r s
  | .mviInd m r => Sys2Proof.Machine.execMviInd m r s
  | .addInd m r => Sys2Proof.Machine.execAddInd m r s
  | .subInd m r => Sys2Proof.Machine.execSubInd m r s
  | .cmpInd m r => Sys2Proof.Machine.execCmpInd m r s
  | .andInd m r => Sys2Proof.Machine.execAndInd m r s
  | .xorInd m r => Sys2Proof.Machine.execXorInd m r s
  | .mvoi r imm => Sys2Proof.Machine.execMvoi r imm s
  | .mvii r imm => Sys2Proof.Machine.execMvii r imm s
  | .addi r imm => Sys2Proof.Machine.execAddi r imm s
  | .subi r imm => Sys2Proof.Machine.execSubi r imm s
  | .cmpi r imm => Sys2Proof.Machine.execCmpi r imm s
  | .andi r imm => Sys2Proof.Machine.execAndi r imm s
  | .xori r imm => Sys2Proof.Machine.execXori r imm s
  | .busRead a force => Sys2Proof.Machine.execBusRead a force s
  | .busWrite a v => Sys2Proof.Machine.execBusWrite a v s
  | .bankswitch chapter half v => Sys2Proof.Machine.execBankswitch chapter half v s
  | .pageFlip chapter v => Sys2Proof.Machine.execPageFlip chapter v s
  | .mapSet copy p v => Sys2Proof.Machine.execMapSet copy p v s
  | .permSet copy p v => Sys2Proof.Machine.execPermSet copy p v s
  | .pflSet chapter page v => Sys2Proof.Machine.execPflSet chapter page v s
  | .jlpUnlock v => Sys2Proof.Machine.execJlpUnlock v s
  | .jlpLock v => Sys2Proof.Machine.execJlpLock v s
  | .jlpSgAddr v => Sys2Proof.Machine.execJlpSgAddr v s
  | .jlpSgRow v => Sys2Proof.Machine.execJlpSgRow v s
  | .jlpRamToFlash v => Sys2Proof.Machine.execJlpRamToFlash v s
  | .jlpFlashToRam v => Sys2Proof.Machine.execJlpFlashToRam v s
  | .jlpSectorErase v => Sys2Proof.Machine.execJlpSectorErase v s
  | .jlpMulSs half v => Sys2Proof.Machine.execJlpMulSs half v s
  | .jlpMulSu half v => Sys2Proof.Machine.execJlpMulSu half v s
  | .jlpMulUs half v => Sys2Proof.Machine.execJlpMulUs half v s
  | .jlpMulUu half v => Sys2Proof.Machine.execJlpMulUu half v s
  | .jlpDivSs half v => Sys2Proof.Machine.execJlpDivSs half v s
  | .jlpDivUu half v => Sys2Proof.Machine.execJlpDivUu half v s
  | .jlpRegWrite n v => Sys2Proof.Machine.execJlpRegWrite n v s
  | .jlpRegRead n force => Sys2Proof.Machine.execJlpRegRead n force s
  | .jlpExtReg n acc => Sys2Proof.Machine.execJlpExtReg n acc s
  | .jlpCrcFold v => Sys2Proof.Machine.execJlpCrcFold v s
  | .jlpCrcAccess acc => Sys2Proof.Machine.execJlpCrcAccess acc s
  | .jlpRandom force => Sys2Proof.Machine.execJlpRandom force s
  | .decode a => Sys2Proof.Machine.execDecode a s
  | .invalidate lo hi => Sys2Proof.Machine.execInvalidate lo hi s
  | .reset => Sys2Proof.Machine.execReset s
  | .tick n => Sys2Proof.Machine.execTick n s
  | .crcUpdateByteRight width poly crc x => Sys2Proof.Machine.execCrcUpdateByteRight width poly crc x s
  | .crcUpdateByteLeft width poly crc x => Sys2Proof.Machine.execCrcUpdateByteLeft width poly crc x s
  | .crcUpdateBlock dir width poly crc xs => Sys2Proof.Machine.execCrcUpdateBlock dir width poly crc xs s
  | .crc16Fold crc v => Sys2Proof.Machine.execCrc16Fold crc v s

end Sys2Proof.Machine
end

