-- ==== Sys2Proof/Machine/Loader.lean ====
section
/-! DEFINITION. Placing one instruction or one bus transaction where the next step runs it (log 14). -/

namespace Sys2Proof.Machine

/-- The bus address an instruction is placed at. -/
def placedAt : Word := 0x5001#16

/-- A word of the store set, outside any transaction. -/
def placeWord (pa : Nat) (v : Word) (s : State) : State := { s with ram := tableSet ramDefault s.ram pa v }

/-- A transaction put before the others, with the fault latch open. -/
def askNext (r : Request) (s : State) : State := { s with requests := r :: s.requests, fault := none }

/-- Three words placed at `placedAt` in a readable paragraph, a word that is not SDBD before them, and a decode
of that address asked for (log 14). -/
def placeInstruction (w1 w2 w3 : Word) (s : State) : State :=
  askNext (.decode placedAt)
    { placeWord 0x5003 w3 (placeWord 0x5002 w2 (placeWord 0x5001 w1 (placeWord 0x5000 0x0000#16 s))) with
      memMapAct := vecSet s.memMapAct 0x50#8 0x0050#16
      memPermAct := vecSet s.memPermAct 0x50#8 (vecGet s.memPermAct 0x50#8 ||| 0b0001#4)
      icache := tableDrop (· == placedAt.toNat) s.icache
      jlpSleep := 0 }

/-- The words of a table row placed: an instruction word in memory, a bus row as its transaction (log 13,
log 14). -/
def placeTableWords (w1 w2 w3 : Word) (s : State) : State :=
  match decodeWords false [w1, w2, w3], tableBusRequest w1 w2 with
  | .error _, some r => askNext r s
  | _, _ => placeInstruction w1 w2 w3 s

end Sys2Proof.Machine
end

