-- ==== Sys2Proof/Machine/Step.lean ====
section
/-! DEFINITION. One step: the oldest transaction asked for runs as its row of the opcode table. -/

namespace Sys2Proof.Machine

/-- One transaction (00_scope.md R7, log 1). With none asked for, nothing changes (log 23). -/
def step (s : State) : Host.Outcome State Fault Refusal :=
  match s.requests with
  | [] => .next s
  | r :: rest => exec (decodeRequest r) { s with requests := rest }

/-- The state with a row of the opcode table placed where the next step runs it (log 14). -/
def State.withFetchWord (s : State) (nbits w : Nat) : State :=
  placeTableWords (tableWord nbits w 0) (tableWord nbits w 1) (tableWord nbits w 2) s

end Sys2Proof.Machine
end

