-- ==== Sys2Proof/Safety.lean ====
section
/-! DEFINITION. What counts as a good state and a safe run. -/

namespace Sys2Proof.Machine

/-- A cached record describes an instruction at its own address: its length is 1 to 3 words, it holds that many
words, and its `sdbd` agrees with its lookback (10_state.md R22, R23). -/
def recordCoherent (k : Nat) (r : DecodedRecord) : Prop :=
  r.addr.toNat = k ∧ r.len = r.words.length ∧ 1 ≤ r.len ∧ r.len ≤ 3 ∧ r.sdbd = prevIsSdbd r.lookback

/-- The tables are in canonical form, over the addresses the spec gives them. -/
structure State.TablesWf (s : State) : Prop where
  ram : Memory.wf s.ram
  initialized : Table.wf false ramWords s.initialized
  icache : Table.wf none 0x10000 s.icache
  flash : (s.flash.map Prod.fst).Pairwise (· < ·) ∧ ∀ e ∈ s.flash, e.2 ≠ flashDefault

/-- The invariant of the block: canonical tables; every cached record coherent; the sleep counter within the
longest latency (10_state.md R39); the accelerator on only in a mode that allows it (44_jlp_window.md R350); no
decode left in progress between transactions (43_locutus_bus.md R319). -/
structure State.Inv (s : State) : Prop where
  tables : s.TablesWf
  records : ∀ e ∈ s.icache, ∀ r, e.2 = some r → recordCoherent e.1 r
  sleep : s.jlpSleep ≤ 999
  accel : s.jlpAccelOn = true → s.params.jlpMode ≠ .disabled
  fetch : s.fetch = Fetch.idle

/-- What no bus transaction changes: the latch, the configuration, the output to the CPU, the queue of
transactions, the decode in progress. -/
structure State.SameSetup (s t : State) : Prop where
  fault : t.fault = s.fault
  featureFlags : t.featureFlags = s.featureFlags
  ltoIsaEnabled : t.ltoIsaEnabled = s.ltoIsaEnabled
  uid : t.uid = s.uid
  params : t.params = s.params
  requests : t.requests = s.requests
  fetch : t.fetch = s.fetch

/-- No fault is latched and no access is stalled: the block answers the next access. -/
def State.quiet (s : State) : Prop := s.fault = none ∧ s.jlpSleep = 0

/-- The PV shadow of a write to an address finds its old word inside the store, or takes no copy
(43_locutus_bus.md R303). -/
def shadowOk (s : State) (a : Word) : Prop :=
  permR (activePerm s a) = true ∨ permW (activePerm s a) = true → a ≠ 0x9F8D#16 → phys s a < ramWords

/-- The state a write's branch starts from: the generator mixed and, where the paragraph is readable or
writable and the address is not `$9F8D`, the old word in JLP register 13 (43_locutus_bus.md R303). -/
def afterShadow (a : Word) (s : State) : State :=
  if (permR (activePerm s a) || permW (activePerm s a)) && a != 0x9F8D#16 then
    setJlpRegister 13#4 (ramWord s (phys s a)) (mixRng a s)
  else mixRng a s

/-- The records of a write's own cover, a, a - 1 and a - 2, are reset and every other one is as before
(41_decode.md R173). -/
def coverReset (a : Word) (s t : State) : Prop :=
  ∀ b, cached t b = if b = a ∨ b = a - 1#16 ∨ b = a - 2#16 then none else cached s b

/-- No fatal fault is latched (60_exceptions.md R400). -/
def State.ok (s : State) : Prop := s.fault = none

/-- A run of n steps that no fault ends and no refusal interrupts: what a claim about a program needs
(60_exceptions.md R404). -/
def safeRun (n : Nat) (s : State) : Prop := ∃ s', Sys2Proof.core.run n s = .next s' ∧ s'.ok

end Sys2Proof.Machine
end

