-- ==== Sys2Proof/Certificates/Slice0/Obligations.lean ====
section
/-! DEFINITION. The statements for the provers. -/

open Sys2Proof Sys2Proof.Machine

/-! ### Encoding -/

/-- Encoding an instruction and decoding the words gives the instruction back, with every operand, whether or not
SDBD stands before it, and leaves the words after it (30_encoding.md R100 to R111). -/
def Obligations.DecodeInvertsEncode : Prop :=
  ∀ (sdbd : Bool) (i : Instr) (ws rest : List Word),
    i.wellFormed = true → encodeWords sdbd i = some ws → decodeWords sdbd (ws ++ rest) = .ok (i, rest)

/-- What is decoded is well formed, takes as many words as its length says, and encodes to the same words: to the
same first word always, and to all of them where the format ignores no bit (JSR ignores the high bits of its later
words, an immediate after SDBD their high bytes). -/
def Obligations.DecodedInstructionEncodesBack : Prop :=
  ∀ (sdbd : Bool) (ws rest : List Word) (i : Instr), decodeWords sdbd ws = .ok (i, rest) →
    i.wellFormed = true ∧
    ∃ w1 used again, ws = w1 :: used ++ rest ∧ used.length + 1 = instrLength sdbd w1 ∧
      encodeWords sdbd i = some (w1 :: again) ∧ again.length = used.length ∧
      (classify (opcodeOf w1) ≠ .jsr → (classify (opcodeOf w1) ≠ .imm2op ∨ sdbd = false) → again = used)

/-- A transaction decodes to the row that encodes to it, and a well-formed row to itself: no address and no operand
is lost (30_encoding.md R116 to R120). -/
def Obligations.TransactionRowsRoundTrip : Prop :=
  (∀ (i : Instr) (r : Request), i.wellFormed = true → encodeRequest i = some r → decodeRequest r = i) ∧
  (∀ r : Request, encodeRequest (decodeRequest r) = some r)

/-- The range table of the formats and the priority list of patterns classify every opcode alike, and the counts
of the twelve formats are the spec's (30_encoding.md R101, R102). -/
def Obligations.ClassificationIsFirstPattern : Prop :=
  (∀ w : BitVec 10, firstMatch formatPatterns w = some (classify w)) ∧
  ∀ p ∈ [(Format.impl1opA, 4), (.jsr, 1), (.impl1opB, 3), (.reg1op, 48), (.gswd, 4), (.nopSin, 4),
      (.rot1op, 64), (.reg2op, 384), (.condBr, 64), (.dir2op, 56), (.ind2op, 336), (.imm2op, 56)],
    (List.range 1024).countP (fun n => classify (BitVec.ofNat 10 n) == p.1) = p.2

/-- Every first word with no bit above the opcode starts an instruction, which has a record: there is no gap in the
opcode space; any other first word is refused by name (30_encoding.md R102, 60_exceptions.md R403). -/
def Obligations.DecodingIsTotal : Prop :=
  ∀ (sdbd : Bool) (w1 w2 w3 : Word),
    (w1.extractLsb' 10 6 = 0#6 → ∃ i rest, decodeWords sdbd [w1, w2, w3] = .ok (i, rest) ∧
      rest.length + instrLength sdbd w1 = 3 ∧ ∀ f, ∃ r, recordOf i f = some r) ∧
    (w1.extractLsb' 10 6 ≠ 0#6 → ∀ ws, decodeWords sdbd (w1 :: ws) = .error (.weeds w1))

/-- Words of the spec's own examples decode to the instructions they stand for (42_decode_opcodes.md, 41_decode.md
R162). A sanity statement. -/
def Obligations.SpecExampleWordsDecode : Prop :=
  decodeWords false [0x0001#16] = .ok (.sdbd, []) ∧
  decodeWords false [0x000B#16] = .ok (.incr 3#3, []) ∧
  decodeWords false [0x0032#16] = .ok (.gswd 2#2, []) ∧
  decodeWords false [0x0035#16] = .ok (.nop 1#1, []) ∧
  decodeWords false [0x0065#16] = .ok (.slr 1#2 1#1, []) ∧
  decodeWords false [0x00AF#16] = .ok (.movr 5#3 7#3, []) ∧
  decodeWords false [0x009B#16] = .ok (.tstr 3#3, []) ∧
  decodeWords false [0x0004#16, 0x0110#16, 0x0234#16] = .ok (.jsr 1#2 0x1234#16, []) ∧
  decodeWords false [0x0213#16, 0x0004#16] = .ok (.bext .forward 3#4 0x0004#16, []) ∧
  decodeWords false [0x0280#16, 0x0200#16] = .ok (.mvi 0#3 0x0200#16, []) ∧
  decodeWords true [0x0261#16] = .ok (.mvoInd 4#3 1#3, []) ∧
  decodeWords true [0x02B8#16, 0xFF34#16, 0xAB12#16] = .ok (.mvii 0#3 0x1234#16, [])

/-! ### What a decode returns -/

/-- The operand table of the decoder: for every first word with no bit above the opcode, every lookback and every
later word, the record holds the fields the table gives its format (41_decode.md R164, R166). The assignment of the
fields is the spec's own decision (92_eei_decisions.md D5). -/
def Obligations.ExtractionTable : Prop :=
  ∀ (a lookback w1 w2 w3 : Word), w1.extractLsb' 10 6 = 0#6 →
    ∃ r, recordOfWords ⟨a, lookback, [w1, w2, w3].take (instrLength (lookback == 0x0001#16) w1)⟩ = some r ∧
      r.addr = a ∧ r.lookback = lookback ∧ r.sdbd = (lookback == 0x0001#16) ∧
      r.fmt = classify (opcodeOf w1) ∧ r.words = [w1, w2, w3].take r.len ∧
      match r.fmt with
      | .impl1opA | .impl1opB =>
        r.len = 1 ∧ r.op = (w1.extractLsb' 0 3).toNat ∧ r.reg0.val = 0 ∧ r.reg1.val = 0 ∧ r.imm0 = 0#16 ∧
          r.imm1 = 0#16
      | .jsr =>
        r.len = 3 ∧ r.op = (w2.extractLsb' 0 2).toNat ∧ r.reg0.val = 4 + (w2.extractLsb' 8 2).toNat ∧
          r.reg1.val = 0 ∧
          r.imm0.toNat = (w2.extractLsb' 2 6).toNat * 1024 + (w3.extractLsb' 0 10).toNat ∧ r.imm1 = 0#16
      | .reg1op =>
        r.len = 1 ∧ r.op = (w1.extractLsb' 3 3).toNat ∧ r.reg0.val = (w1.extractLsb' 0 3).toNat ∧
          r.reg1.val = 0 ∧ r.imm0 = 0#16 ∧ r.imm1 = 0#16
      | .gswd =>
        r.len = 1 ∧ r.op = 6 ∧ r.reg0.val = (w1.extractLsb' 0 2).toNat ∧ r.reg1.val = 0 ∧ r.imm0 = 0#16 ∧
          r.imm1 = 0#16
      | .nopSin =>
        r.len = 1 ∧ r.op = (w1.extractLsb' 1 1).toNat ∧ r.reg0.val = 0 ∧ r.reg1.val = 0 ∧
          r.imm0.toNat = (w1.extractLsb' 0 1).toNat ∧ r.imm1 = 0#16
      | .rot1op =>
        r.len = 1 ∧ r.op = (w1.extractLsb' 3 3).toNat ∧ r.reg0.val = (w1.extractLsb' 0 2).toNat ∧
          r.reg1.val = 0 ∧ r.imm0.toNat = (w1.extractLsb' 2 1).toNat + 1 ∧ r.imm1 = 0#16
      | .reg2op =>
        r.len = 1 ∧ r.op = (w1.extractLsb' 6 3).toNat ∧ r.reg0.val = (w1.extractLsb' 3 3).toNat ∧
          r.reg1.val = (w1.extractLsb' 0 3).toNat ∧ r.imm0 = 0#16 ∧ r.imm1 = 0#16
      | .condBr =>
        r.len = 2 ∧ r.op = (w1.extractLsb' 0 5).toNat ∧ r.reg0.val = (w1.extractLsb' 5 1).toNat ∧
          r.reg1.val = 0 ∧ r.imm0 = a + 2#16 + (if w1.getLsbD 5 then ~~~w2 else w2) ∧ r.imm1 = w2
      | .dir2op =>
        r.len = 2 ∧ r.op = (w1.extractLsb' 6 3).toNat ∧ r.reg0.val = 0 ∧
          r.reg1.val = (w1.extractLsb' 0 3).toNat ∧ r.imm0 = w2 ∧ r.imm1 = 0#16
      | .ind2op =>
        r.len = 1 ∧ r.op = (w1.extractLsb' 6 3).toNat ∧ r.reg0.val = (w1.extractLsb' 3 3).toNat ∧
          r.reg1.val = (w1.extractLsb' 0 3).toNat ∧ r.imm0 = 0#16 ∧ r.imm1 = 0#16
      | .imm2op =>
        r.op = (w1.extractLsb' 6 3).toNat ∧ r.reg0.val = 7 ∧ r.reg1.val = (w1.extractLsb' 0 3).toNat ∧
          r.imm1 = 0#16 ∧
          if lookback = 0x0001#16 then
            r.len = 3 ∧ r.imm0.toNat = (w2.extractLsb' 0 8).toNat + (w3.extractLsb' 0 8).toNat * 256
          else r.len = 2 ∧ r.imm0 = w2

/-- The binding table of the decoder, from the record's own fields: the mnemonic by `op`, TSTR where a MOVR names one
register twice, the two PC bits, the J family where the save register is 7, the condition of a branch, and the
lookback in the indirect and immediate bindings alone (41_decode.md R167 to R169, the spec's own decision
92_eei_decisions.md D6). -/
def Obligations.BindingTable : Prop :=
  ∀ (f : Fetch) (r : DecodedRecord), recordOfWords f = some r →
    match r.fmt with
    | .impl1opA => ∃ m, r.binding = .implA m ∧
        (r.op, m) ∈ [(0, ImpliedOp.hlt), (1, .sdbd), (2, .eis), (3, .dis)]
    | .impl1opB => ∃ m, r.binding = .implB m ∧ (r.op, m) ∈ [(5, ImpliedOp.tci), (6, .clrc), (7, .setc)]
    | .jsr => ∃ m, r.binding = .jsr m ∧
        if r.reg0.val = 7 then (r.op, m) ∈ [(0, JumpOp.j), (1, .je), (2, .jd), (3, .jRsv)]
        else (r.op, m) ∈ [(0, JumpOp.jsr), (1, .jsre), (2, .jsrd), (3, .jsrRsv)]
    | .reg1op => ∃ m, r.binding = .reg1op m ∧
        (r.op, m) ∈ [(1, Reg1Op.incr), (2, .decr), (3, .comr), (4, .negr), (5, .adcr), (7, .rswd)]
    | .gswd => r.binding = .gswd
    | .nopSin => ∃ m, r.binding = .nopSin m ∧ (r.op, m) ∈ [(0, NopSinOp.nop), (1, .sin)]
    | .rot1op => ∃ m, r.binding = .rot1op m ∧
        (r.op, m) ∈ [(0, RotateOp.swap), (1, .sll), (2, .rlc), (3, .sllc), (4, .slr), (5, .sar), (6, .rrc),
          (7, .sarc)]
    | .reg2op => ∃ m, r.binding = .reg2op m (decide (r.reg1.val = 7))
          (decide (r.reg0.val = 7 ∧ r.reg1.val ≠ 7)) ∧
        if r.op = 2 ∧ r.reg0 = r.reg1 then m = .tstr
        else (r.op, m) ∈ [(2, Reg2Op.movr), (3, .addr), (4, .subr), (5, .cmpr), (6, .andr), (7, .xorr)]
    | .condBr => ∃ m x cccc, r.binding = .condBr m x cccc ∧ r.op = x.toNat * 16 + cccc.toNat ∧
        if x = 1#1 then m = .bext
        else (cccc.toNat, m) ∈ [(0, BranchOp.b), (1, .bc), (2, .bov), (3, .bpl), (4, .beq), (5, .blt), (6, .ble),
          (7, .busc), (8, .nopp), (9, .bnc), (10, .bnov), (11, .bmi), (12, .bneq), (13, .bge), (14, .bgt),
          (15, .besc)]
    | .dir2op => ∃ m, r.binding = .dir2op m ∧
        (r.op, m) ∈ [(1, MemOp.mvo), (2, .mvi), (3, .add), (4, .sub), (5, .cmp), (6, .and), (7, .xor)]
    | .ind2op => ∃ m, r.binding = .ind2op m r.sdbd ∧
        (r.op, m) ∈ [(1, MemOp.mvo), (2, .mvi), (3, .add), (4, .sub), (5, .cmp), (6, .and), (7, .xor)]
    | .imm2op => ∃ m, r.binding = .imm2op m r.sdbd ∧
        (r.op, m) ∈ [(1, MemOp.mvo), (2, .mvi), (3, .add), (4, .sub), (5, .cmp), (6, .and), (7, .xor)]

/-- HLT, SDBD, EIS, DIS, TCI, CLRC, SETC complete: the record is cached at its address and returned, and nothing else
of the state changes (42_decode_opcodes.md R201 to R207; the meaning of an instruction is log 20). -/
def Obligations.ImpliedInstructionsComplete : Prop :=
  ∀ (s : State), s.fault = none →
    ∀ p ∈ [(Instr.hlt, Format.impl1opA, 0, Binding.implA .hlt), (.sdbd, .impl1opA, 1, .implA .sdbd),
        (.eis, .impl1opA, 2, .implA .eis), (.dis, .impl1opA, 3, .implA .dis), (.tci, .impl1opB, 5, .implB .tci),
        (.clrc, .impl1opB, 6, .implB .clrc), (.setc, .impl1opB, 7, .implB .setc)],
      let r : DecodedRecord :=
        { addr := s.fetch.addr, len := 1, words := s.fetch.words, fmt := p.2.1, op := p.2.2.1, reg0 := 0, reg1 := 0
          imm0 := 0#16, imm1 := 0#16, sdbd := s.fetch.lookback == 0x0001#16, binding := p.2.2.2
          lookback := s.fetch.lookback }
      exec p.1 s = .next { s with
        icache := tableSet none s.icache s.fetch.addr.toNat (some r), fetch := Fetch.idle, response := .record r }

/-- The one-register instructions, GSWD, NOP, SIN and the shifts complete, for every register and every count: the
record is cached and returned, and nothing else of the state changes (42_decode_opcodes.md R208 to R224, log 20). -/
def Obligations.OneRegisterInstructionsComplete : Prop :=
  ∀ (s : State) (n : BitVec 3) (m : BitVec 2) (k : BitVec 1), s.fault = none →
    ∀ p ∈ [(Instr.incr n, Format.reg1op, 1, n.toNat, 0, Binding.reg1op .incr),
        (.decr n, .reg1op, 2, n.toNat, 0, .reg1op .decr), (.comr n, .reg1op, 3, n.toNat, 0, .reg1op .comr),
        (.negr n, .reg1op, 4, n.toNat, 0, .reg1op .negr), (.adcr n, .reg1op, 5, n.toNat, 0, .reg1op .adcr),
        (.rswd n, .reg1op, 7, n.toNat, 0, .reg1op .rswd), (.gswd m, .gswd, 6, m.toNat, 0, .gswd),
        (.nop k, .nopSin, 0, 0, k.toNat, .nopSin .nop), (.sin k, .nopSin, 1, 0, k.toNat, .nopSin .sin),
        (.swap m k, .rot1op, 0, m.toNat, k.toNat + 1, .rot1op .swap),
        (.sll m k, .rot1op, 1, m.toNat, k.toNat + 1, .rot1op .sll),
        (.rlc m k, .rot1op, 2, m.toNat, k.toNat + 1, .rot1op .rlc),
        (.sllc m k, .rot1op, 3, m.toNat, k.toNat + 1, .rot1op .sllc),
        (.slr m k, .rot1op, 4, m.toNat, k.toNat + 1, .rot1op .slr),
        (.sar m k, .rot1op, 5, m.toNat, k.toNat + 1, .rot1op .sar),
        (.rrc m k, .rot1op, 6, m.toNat, k.toNat + 1, .rot1op .rrc),
        (.sarc m k, .rot1op, 7, m.toNat, k.toNat + 1, .rot1op .sarc)],
      let r : DecodedRecord :=
        { addr := s.fetch.addr, len := 1, words := s.fetch.words, fmt := p.2.1, op := p.2.2.1
          reg0 := Fin.ofNat 8 p.2.2.2.1, reg1 := 0, imm0 := BitVec.ofNat 16 p.2.2.2.2.1, imm1 := 0#16
          sdbd := s.fetch.lookback == 0x0001#16, binding := p.2.2.2.2.2, lookback := s.fetch.lookback }
      exec p.1 s = .next { s with
        icache := tableSet none s.icache s.fetch.addr.toNat (some r), fetch := Fetch.idle, response := .record r }

/-- The two-register instructions and TSTR complete, for every pair of registers, with the PC bits of the binding; the
record is cached and returned, and nothing else of the state changes (42_decode_opcodes.md R225 to R232, log 20). -/
def Obligations.TwoRegisterInstructionsComplete : Prop :=
  ∀ (s : State) (a b : BitVec 3), s.fault = none →
    ∀ p ∈ [(Instr.movr a b, 2, Reg2Op.movr, a), (.tstr b, 2, .tstr, b), (.addr a b, 3, .addr, a),
        (.subr a b, 4, .subr, a), (.cmpr a b, 5, .cmpr, a), (.andr a b, 6, .andr, a), (.xorr a b, 7, .xorr, a)],
      let r : DecodedRecord :=
        { addr := s.fetch.addr, len := 1, words := s.fetch.words, fmt := .reg2op, op := p.2.1
          reg0 := Fin.ofNat 8 p.2.2.2.toNat, reg1 := Fin.ofNat 8 b.toNat, imm0 := 0#16, imm1 := 0#16
          sdbd := s.fetch.lookback == 0x0001#16
          binding := .reg2op p.2.2.1 (b == 7#3) (p.2.2.2 == 7#3 && b != 7#3), lookback := s.fetch.lookback }
      exec p.1 s = .next { s with
        icache := tableSet none s.icache s.fetch.addr.toNat (some r), fetch := Fetch.idle, response := .record r }

/-- The eight jumps complete, the two reserved ones among them, for every save register and target; the record is
cached and returned, and nothing else of the state changes (42_decode_opcodes.md R233 to R239, log 20). -/
def Obligations.JumpInstructionsComplete : Prop :=
  ∀ (s : State) (rr : BitVec 2) (t : Word), s.fault = none →
    ∀ p ∈ [(Instr.j t, 0, JumpOp.j, 7), (.je t, 1, .je, 7), (.jd t, 2, .jd, 7), (.jRsv t, 3, .jRsv, 7),
        (.jsr rr t, 0, .jsr, 4 + rr.toNat), (.jsre rr t, 1, .jsre, 4 + rr.toNat),
        (.jsrd rr t, 2, .jsrd, 4 + rr.toNat), (.jsrRsv rr t, 3, .jsrRsv, 4 + rr.toNat)],
      let r : DecodedRecord :=
        { addr := s.fetch.addr, len := 3, words := s.fetch.words, fmt := .jsr, op := p.2.1
          reg0 := Fin.ofNat 8 p.2.2.2, reg1 := 0, imm0 := t, imm1 := 0#16
          sdbd := s.fetch.lookback == 0x0001#16, binding := .jsr p.2.2.1, lookback := s.fetch.lookback }
      exec p.1 s = .next { s with
        icache := tableSet none s.icache s.fetch.addr.toNat (some r), fetch := Fetch.idle, response := .record r }

/-- The seventeen branches complete, in both directions and for every displacement: the target is the address after
the instruction plus the displacement, or plus its complement; the record is cached and returned, and nothing else of
the state changes (42_decode_opcodes.md R240 to R257, log 20). -/
def Obligations.BranchInstructionsComplete : Prop :=
  ∀ (s : State) (d : Direction) (disp : Word) (e : BitVec 4), s.fault = none →
    ∀ p ∈ [(Instr.b d disp, 0#1, 0#4, BranchOp.b), (.bc d disp, 0#1, 1#4, .bc), (.bov d disp, 0#1, 2#4, .bov),
        (.bpl d disp, 0#1, 3#4, .bpl), (.beq d disp, 0#1, 4#4, .beq), (.blt d disp, 0#1, 5#4, .blt),
        (.ble d disp, 0#1, 6#4, .ble), (.busc d disp, 0#1, 7#4, .busc), (.nopp d disp, 0#1, 8#4, .nopp),
        (.bnc d disp, 0#1, 9#4, .bnc), (.bnov d disp, 0#1, 10#4, .bnov), (.bmi d disp, 0#1, 11#4, .bmi),
        (.bneq d disp, 0#1, 12#4, .bneq), (.bge d disp, 0#1, 13#4, .bge), (.bgt d disp, 0#1, 14#4, .bgt),
        (.besc d disp, 0#1, 15#4, .besc), (.bext d e disp, 1#1, e, .bext)],
      let r : DecodedRecord :=
        { addr := s.fetch.addr, len := 2, words := s.fetch.words, fmt := .condBr
          op := p.2.1.toNat * 16 + p.2.2.1.toNat, reg0 := if d = .backward then 1 else 0, reg1 := 0
          imm0 := s.fetch.addr + 2#16 + (if d = .backward then ~~~disp else disp), imm1 := disp
          sdbd := s.fetch.lookback == 0x0001#16, binding := .condBr p.2.2.2 p.2.1 p.2.2.1
          lookback := s.fetch.lookback }
      exec p.1 s = .next { s with
        icache := tableSet none s.icache s.fetch.addr.toNat (some r), fetch := Fetch.idle, response := .record r }

/-- The seven memory operations complete in their direct, indirect and immediate forms, for every register and
operand, with the lookback in the binding and the length as each form has it; the record is cached and returned, and
nothing else of the state changes (42_decode_opcodes.md R258 to R278, log 20). -/
def Obligations.MemoryInstructionsComplete : Prop :=
  ∀ (s : State) (m n : BitVec 3) (v : Word), s.fault = none →
    ∀ p ∈ [(Instr.mvo n v, Instr.mvoInd m n, Instr.mvoi n v, 1, MemOp.mvo),
        (.mvi n v, .mviInd m n, .mvii n v, 2, .mvi), (.add n v, .addInd m n, .addi n v, 3, .add),
        (.sub n v, .subInd m n, .subi n v, 4, .sub), (.cmp n v, .cmpInd m n, .cmpi n v, 5, .cmp),
        (.and n v, .andInd m n, .andi n v, 6, .and), (.xor n v, .xorInd m n, .xori n v, 7, .xor)],
      let after := s.fetch.lookback == 0x0001#16
      let direct : DecodedRecord :=
        { addr := s.fetch.addr, len := 2, words := s.fetch.words, fmt := .dir2op, op := p.2.2.2.1, reg0 := 0
          reg1 := Fin.ofNat 8 n.toNat, imm0 := v, imm1 := 0#16, sdbd := after, binding := .dir2op p.2.2.2.2
          lookback := s.fetch.lookback }
      let indirect : DecodedRecord :=
        { addr := s.fetch.addr, len := 1, words := s.fetch.words, fmt := .ind2op, op := p.2.2.2.1
          reg0 := Fin.ofNat 8 m.toNat, reg1 := Fin.ofNat 8 n.toNat, imm0 := 0#16, imm1 := 0#16, sdbd := after
          binding := .ind2op p.2.2.2.2 after, lookback := s.fetch.lookback }
      let immediate : DecodedRecord :=
        { addr := s.fetch.addr, len := if after then 3 else 2, words := s.fetch.words, fmt := .imm2op
          op := p.2.2.2.1, reg0 := 7, reg1 := Fin.ofNat 8 n.toNat, imm0 := v, imm1 := 0#16, sdbd := after
          binding := .imm2op p.2.2.2.2 after, lookback := s.fetch.lookback }
      (exec p.1 s = .next { s with
        icache := tableSet none s.icache s.fetch.addr.toNat (some direct), fetch := Fetch.idle
        response := .record direct }) ∧
      (exec p.2.1 s = .next { s with
        icache := tableSet none s.icache s.fetch.addr.toNat (some indirect), fetch := Fetch.idle
        response := .record indirect }) ∧
      (exec p.2.2.1 s = .next { s with
        icache := tableSet none s.icache s.fetch.addr.toNat (some immediate), fetch := Fetch.idle
        response := .record immediate })

/-- The two reserved jump bindings are refused an execution meaning by name, every other binding is given to its
consumer (60_exceptions.md R405, log 21). -/
def Obligations.ReservedBindingsAreRefused : Prop :=
  ∀ r : DecodedRecord,
    (r.binding = .jsr .jRsv ∨ r.binding = .jsr .jsrRsv →
      executionBinding r = .error (.reservedEncoding r.addr)) ∧
    (r.binding ≠ .jsr .jRsv → r.binding ≠ .jsr .jsrRsv → executionBinding r = .ok r.binding)

/-! ### The step -/

/-- A step runs the oldest transaction asked for, as its row of the opcode table, on the state without it
(00_scope.md R7, log 1). -/
def Obligations.StepRunsOldestTransaction : Prop :=
  ∀ (s : State) (r : Request) (rest : List Request), s.requests = r :: rest →
    step s = exec (decodeRequest r) { s with requests := rest }

/-- A step on a decode of an undecoded address runs the instruction that the fetched words decode to: the first word,
the word before it, the words after it, read over the bus in that order; then `exec` of the decoded instruction, on the
state the reads left and with those words in the fetch latch (41_decode.md R170, log 3, log 20). -/
def Obligations.StepRunsDecodedInstruction : Prop :=
  ∀ (s s1 s2 s3 : State) (a w1 lookback : Word) (ws : List Word) (rest : List Request) (i : Instr),
    s.requests = .decode a :: rest → s.fault = none → cached s a = none →
    busRead a false { s with requests := rest } = .ok w1 s1 → isWeeds w1 = false →
    busRead (a - 1#16) false s1 = .ok lookback s2 →
    fetchRest a (instrLength (prevIsSdbd lookback) w1) s2 = .ok ws s3 →
    decodeWords (prevIsSdbd lookback) (w1 :: ws) = .ok (i, []) →
    step s = exec i { s3 with fetch := ⟨a, lookback, w1 :: ws⟩ }

/-- While a fault is latched every instruction, every bus access and every operation returns Faulted with the latched
record and changes nothing, reset included (60_exceptions.md R400, the spec's own decision 92_eei_decisions.md D46). That
INVALIDATE, which R400 does not list, returns Faulted too is the model's reading: log 10. -/
def Obligations.LatchedFaultStopsEverything : Prop :=
  ∀ (s : State) (r : FaultRecord) (i : Instr), s.fault = some r → exec i s = .fault (.faulted r)

/-! ### The decode transaction -/

/-- A decode of an undecoded address whose four words the bus can give completes: the record of the fetched words is
stored at the address and returned, no other entry of the cache changes, `len + 1` bus reads are made, and nothing else
changes but the generator (41_decode.md R170, R171, R176). -/
def Obligations.DecodeMissCachesRecord : Prop :=
  ∀ (s : State) (a w1 lookback w2 w3 : Word), s.fault = none → cached s a = none →
    peek s a = some w1 → peek s (a - 1#16) = some lookback → peek s (a + 1#16) = some w2 →
    peek s (a + 2#16) = some w3 → w1.extractLsb' 10 6 = 0#6 →
    ∃ t r, exec (.decode a) s = .next t ∧
      recordOfWords ⟨a, lookback, [w1, w2, w3].take (instrLength (lookback == 0x0001#16) w1)⟩ = some r ∧
      (∀ b, cached t b = if b = a then some r else cached s b) ∧
      t.draws = s.draws + r.len + 1 ∧
      t = { s with
        icache := t.icache, jlpRng := t.jlpRng, draws := t.draws, fetch := Fetch.idle, response := .record r }

/-- A decode of a cached address compares the cached words and the lookback with the bus as it is now: if all agree
the record is returned and nothing else changes, with no bus read; if one differs or cannot be read, the decode is
refused with StaleDecode (41_decode.md R171, R172, 60_exceptions.md R404; the refusal is the spec's own decision
92_eei_decisions.md D14). -/
def Obligations.DecodeHitIsCheckedAgainstBus : Prop :=
  ∀ (s : State) (a : Word) (r : DecodedRecord), s.fault = none → cached s a = some r →
    (((∀ i < r.len, ∃ w, peek s (a + BitVec.ofNat 16 i) = some w ∧ r.words[i]? = some w) ∧
        (∃ w, peek s (a - 1#16) = some w ∧ (w == 0x0001#16) = r.sdbd)) →
      exec (.decode a) s = .next { s with response := .record r }) ∧
    (¬((∀ i < r.len, ∃ w, peek s (a + BitVec.ofNat 16 i) = some w ∧ r.words[i]? = some w) ∧
        (∃ w, peek s (a - 1#16) = some w ∧ (w == 0x0001#16) = r.sdbd)) →
      exec (.decode a) s = .refused (.staleDecode a))

/-- A first word with bits above the opcode ends the decode after its one bus read, and nothing is cached: with the
hook present it is handed over, else WeedsFault is latched with the address and the word (41_decode.md R161,
60_exceptions.md R401). -/
def Obligations.WeedsWordFaultsOrGoesToHook : Prop :=
  ∀ (s s1 : State) (a w1 : Word), s.fault = none → cached s a = none → busRead a false s = .ok w1 s1 →
    w1.extractLsb' 10 6 ≠ 0#6 →
    exec (.decode a) s =
      if s.params.hookPresent then .next { s1 with response := .hookTransfer a }
      else .next { s1 with fault := some (.weeds a w1), response := .raised (.weeds a w1) }

/-- During a sleep stall a decode that must fetch sees 0xFFFF, counts the stall down by one, and faults or goes to the
hook; a decode that hits is refused (70_reset_and_hazards.md R442). -/
def Obligations.DecodeDuringStall : Prop :=
  ∀ (s : State) (a : Word), s.fault = none → 0 < s.jlpSleep →
    (cached s a = none → exec (.decode a) s =
      if s.params.hookPresent then
        .next { mixRng a s with jlpSleep := s.jlpSleep - 1, response := .hookTransfer a }
      else .next { mixRng a s with
        jlpSleep := s.jlpSleep - 1, fault := some (.weeds a 0xFFFF#16), response := .raised (.weeds a 0xFFFF#16) }) ∧
    (∀ r, cached s a = some r → exec (.decode a) s = .refused (.staleDecode a))

/-- Right after reset, with nothing loaded, every read gives the sentinel and every decode faults
(70_reset_and_hazards.md R432). -/
def Obligations.ResetStateReadsSentinel : Prop :=
  ∀ (a : Word),
    (∃ t, exec (.busRead a false) State.reset = .next t ∧ t.response = .word 0xFFFF#16 ∧ t.fault = none) ∧
    (∃ t, exec (.decode a) State.reset = .next t ∧ t.fault = some (.weeds a 0xFFFF#16))

/-! ### Bus reads -/

/-- A stalled read gives 0xFFFF at any address, forced or not, and takes exactly one from the sleep counter; with no
stall, the fixed windows give 0xFFFF, whatever the tables map there; nothing else changes but the generator
(43_locutus_bus.md R300, R301). -/
def Obligations.StalledAndFixedReads : Prop :=
  ∀ (s : State) (a : Word) (force : Bool), s.fault = none →
    (0 < s.jlpSleep → exec (.busRead a force) s =
      .next { mixRng a s with jlpSleep := s.jlpSleep - 1, response := .word 0xFFFF#16 }) ∧
    (s.jlpSleep = 0 →
      a.toNat ≤ 0x04FF ∨ 0x1000 ≤ a.toNat ∧ a.toNat ≤ 0x1FFF ∨ 0x3000 ≤ a.toNat ∧ a.toNat ≤ 0x47FF →
      exec (.busRead a force) s = .next { mixRng a s with response := .word 0xFFFF#16 })

/-- A read that is not stalled, not in a fixed window and not claimed by the JLP: where the paragraph is readable or
the read is forced, the word of the store at the mapped paragraph, or RamRangeFault where that lies past the store; else
0xFFFF. Nothing else changes but the generator (20_memory.md R64; the fault past the store and the unit of the map index
are the spec's own decision 92_eei_decisions.md D16, bit 0 as R is its decision D15). -/
def Obligations.TranslatedReads : Prop :=
  ∀ (s : State) (a : Word) (force : Bool), s.quiet → fixedUnmapped a = false →
    (s.jlpAccelOn && jlpReadWindow a) = false →
    let pa := (vecGet s.memMapAct (a.extractLsb' 8 8)).toNat * 256 + (a.extractLsb' 0 8).toNat
    exec (.busRead a force) s =
      if (vecGet s.memPermAct (a.extractLsb' 8 8)).getLsbD 0 = true ∨ force = true then
        if pa < 0x80000 then .next { mixRng a s with response := .word (ramWord s pa) }
        else .next { mixRng a s with fault := some (.ramRange pa), response := .raised (.ramRange pa) }
      else .next { mixRng a s with response := .word 0xFFFF#16 }

/-- A forced read differs from a plain one only where the plain one is refused for want of R: it is stalled, windowed
and routed to the JLP alike (43_locutus_bus.md R317, the spec's own decision 92_eei_decisions.md D31). -/
def Obligations.ForceBypassesOnlyR : Prop :=
  ∀ (s : State) (a : Word),
    exec (.busRead a true) s = exec (.busRead a false) s ∨
      (s.quiet ∧ fixedUnmapped a = false ∧ (s.jlpAccelOn && jlpReadWindow a) = false ∧
        permR (activePerm s a) = false ∧
        exec (.busRead a false) s = .next { mixRng a s with response := .word 0xFFFF#16 })

/-- While the accelerator is on, the JLP registers, the wired extended registers and the CRC accumulator are read as
they are, `$9FFE` gives a draw and advances the generator, and an unwired extended register and every address of the
read window that names no register give a draw; nothing else changes (44_jlp_window.md R354, R355, R361, R362, R363, the
spec's own decisions 92_eei_decisions.md D35, D40). -/
def Obligations.JlpRegisterReads : Prop :=
  ∀ (s : State) (i : BitVec 4) (force : Bool), s.quiet → s.jlpAccelOn = true →
    exec (.jlpRegRead i force) s =
      .next { mixRng (jlpRegAddr i) s with response := .word (vecGet s.jlpReg i) } ∧
    (s.params.extRegsWired = true → exec (.jlpExtReg i (.read force)) s =
      .next { mixRng (extRegAddr i) s with response := .word (vecGet s.ext i) }) ∧
    exec (.jlpCrcAccess (.read force)) s = .next { mixRng 0x9FFD#16 s with response := .word s.jlpCrc } ∧
    exec (.jlpRandom force) s = .next { mixRng 0x9FFE#16 s with
      jlpRng := (Config.rngNext (s.draws + 1) (Config.rngMix s.draws s.jlpRng 0x9FFE#16)).2
      draws := s.draws + 2
      response := .word (Config.rngNext (s.draws + 1) (Config.rngMix s.draws s.jlpRng 0x9FFE#16)).1 } ∧
    (s.params.extRegsWired = false → exec (.jlpExtReg i (.read force)) s =
      .next { mixRng (extRegAddr i) s with
        draws := s.draws + 2, response := .word (Config.drawWord (s.draws + 1)) }) ∧
    (∀ a : Word, 0x8000 ≤ a.toNat ∧ a.toNat ≤ 0x803F ∨ 0x9FA0 ≤ a.toNat ∧ a.toNat ≤ 0x9FFC ∨ a = 0x9FFF#16 →
      exec (.busRead a force) s = .next { mixRng a s with
        draws := s.draws + 2, response := .word (Config.drawWord (s.draws + 1)) })

/-- The row an address decodes to is the same transaction as the plain read or write at that address: a row names an
address, the state decides the branch (43_locutus_bus.md R302, R304, log 12). -/
def Obligations.RowsAreBusTransactions : Prop :=
  ∀ (s : State) (a v : Word) (force : Bool),
    exec (decodeRead a force) s = exec (.busRead a force) s ∧ exec (decodeWrite a v) s = exec (.busWrite a v) s

/-- Peek, where it answers, gives the word that a plain read returns, and that read changes the generator alone
(43_locutus_bus.md R318). -/
def Obligations.PeekPredictsRead : Prop :=
  ∀ (s : State) (a w : Word), s.fault = none → peek s a = some w →
    exec (.busRead a false) s = .next { mixRng a s with response := .word w }

/-! ### Bus writes -/

/-- A stalled write is dropped: it takes one from the sleep counter, mixes the generator and resets the cache entries
of a, a - 1 and a - 2, and nothing else changes (43_locutus_bus.md R304, the spec's own decision
92_eei_decisions.md D26). -/
def Obligations.StalledWriteIsDropped : Prop :=
  ∀ (s : State) (a v : Word), s.fault = none → 0 < s.jlpSleep →
    ∃ t, exec (.busWrite a v) s = .next t ∧
      coverReset a s t ∧
      t = { mixRng a s with jlpSleep := s.jlpSleep - 1, icache := t.icache, response := .done }

/-- A write whose old word lies past the store faults before any branch: the latch is set and nothing else changes but
the generator. At `$9F8D`, and in a paragraph neither readable nor writable, no old word is read: the write's branch runs
on the state with the generator mixed and nothing else changed, and the cache cover is reset after it. That the old word
is the raw word of the store is the spec's own decision 92_eei_decisions.md D24 (43_locutus_bus.md R303,
60_exceptions.md R402, R408). -/
def Obligations.PvShadowFaultsFirst : Prop :=
  ∀ (s : State) (a v : Word), s.quiet →
    (a ≠ 0x9F8D#16 → permR (activePerm s a) = true ∨ permW (activePerm s a) = true → 0x80000 ≤ phys s a →
      exec (.busWrite a v) s = .next { mixRng a s with
        fault := some (.ramRange (phys s a)), response := .raised (.ramRange (phys s a)) }) ∧
    (a = 0x9F8D#16 ∨ permR (activePerm s a) = false ∧ permW (activePerm s a) = false →
      exec (.busWrite a v) s =
        finish (fun _ => .done)
          ((writeBranch a v (mixRng a s)).andThen fun _ t => .ok () (invalidateWritten a t)))

/-- Every bus write that completes has reset the cache entries of a, a - 1 and a - 2 before it returns, whatever
branch it took and also where it was dropped (41_decode.md R173). -/
def Obligations.WriteResetsThreeCacheEntries : Prop :=
  ∀ (s t : State) (a v : Word), exec (decodeWrite a v) s = .next t → t.fault = none →
    cached t a = none ∧ cached t (a - 1#16) = none ∧ cached t (a - 2#16) = none

/-- A bankswitch write, where the half-chapter's first paragraph has B: its eight paragraphs map to (v + i) & 0xFF and
the records of its 2K half, from two before it, are reset; without B only the write's own cover is. Nothing else changes
but the PV shadow and the generator (43_locutus_bus.md R308, the spec's own decision 92_eei_decisions.md D22). -/
def Obligations.BankswitchRemapsHalfChapter : Prop :=
  ∀ (s : State) (c : BitVec 4) (h : BitVec 1) (v : Word), s.quiet → shadowOk s (bankswitchAddr c h) →
    let a := bankswitchAddr c h
    let base := c.toNat * 16 + h.toNat * 8
    let lo : Word := BitVec.ofNat 16 (base * 256)
    let flip := (vecGet s.memPermAct (BitVec.ofNat 8 base)).getLsbD 3
    ∃ t, exec (.bankswitch c h v) s = .next t ∧
      (∀ p : BitVec 8, vecGet t.memMapAct p =
        if flip = true ∧ base ≤ p.toNat ∧ p.toNat < base + 8 then
          (v + BitVec.ofNat 16 (p.toNat - base)) &&& 0x00FF#16
        else vecGet s.memMapAct p) ∧
      (∀ b, cached t b =
        if b = a ∨ b = a - 1#16 ∨ b = a - 2#16 then none
        else if flip = true ∧ b - (lo - 2#16) ≤ 0x801#16 then none else cached s b) ∧
      t = { afterShadow a s with memMapAct := t.memMapAct, icache := t.icache, response := .done }

/-- A write that no earlier branch takes: in a writable paragraph the word, narrowed where N is set, goes to the mapped
word of the store, which is marked initialized; else it is dropped. Every other word of the store, and everything else
but the PV shadow, the generator and the cache cover, stays (43_locutus_bus.md R315, R316, 20_memory.md R65, R66). -/
def Obligations.RamStoreWritesOneWord : Prop :=
  ∀ (s : State) (a v : Word), s.quiet → shadowOk s a →
    ¬(0x0040 ≤ a.toNat ∧ a.toNat ≤ 0x005F) → (s.jlpAccelOn && jlpWriteWindow a) = false →
    unlockMatches a v s = false → pageFlipMatches a v s = false → mapperMatches a s = false →
    let q := vecGet s.memPermAct (a.extractLsb' 8 8)
    let pa := (vecGet s.memMapAct (a.extractLsb' 8 8)).toNat * 256 + (a.extractLsb' 0 8).toNat
    (q.getLsbD 1 = true → pa < 0x80000) →
    ∃ t, exec (.busWrite a v) s = .next t ∧
      (∀ k, ramWord t k =
        if q.getLsbD 1 = true ∧ k = pa then (if q.getLsbD 2 = true then narrowStore s.params v else v)
        else ramWord s k) ∧
      (∀ k, isInitialized t k = if q.getLsbD 1 = true ∧ k = pa then true else isInitialized s k) ∧
      coverReset a s t ∧
      (s.params.narrowStore = .specDefault → narrowStore s.params v = v &&& 0x00FF#16) ∧
      t = { afterShadow a s with
        ram := t.ram, initialized := t.initialized, icache := t.icache, response := .done }

/-- A page-flip write, where the page has B: the chapter's paragraphs (the upper eight of chapter 4) map to the page's
paragraphs with the page's permission less B, the page is remembered, and the chapter's records are reset; without B the
word is consumed and only the cover is reset. Nothing else changes but the PV shadow and the generator
(43_locutus_bus.md R310, the spec's own decisions 92_eei_decisions.md D18 to D21). -/
def Obligations.PageFlipInstallsPage : Prop :=
  ∀ (s : State) (c : BitVec 4) (v : Word), s.quiet → shadowOk s (chapterEnd c) →
    v &&& s.params.pflSigMask = 0x0A50#16 → ¬(c = 9#4 ∧ s.jlpAccelOn = true) →
    let a := chapterEnd c
    let g : BitVec 4 := v.extractLsb' 0 4
    let e : BitVec 8 := c ++ g
    let first := if c = 4#4 then 8 else 0
    let lo : Word := BitVec.ofNat 16 (c.toNat * 4096 + first * 256)
    let flip := (vecGet s.pflPerm e).getLsbD 3
    ∃ t, exec (.pageFlip c v) s = .next t ∧
      (∀ p : BitVec 8,
        if flip = true ∧ c.toNat * 16 + first ≤ p.toNat ∧ p.toNat < c.toNat * 16 + 16 then
          (vecGet t.memMapAct p).toNat = (vecGet s.pflMap e).toNat + (p.toNat - c.toNat * 16) ∧
          (∀ j < 3, (vecGet t.memPermAct p).getLsbD j = (vecGet s.pflPerm e).getLsbD j) ∧
          (vecGet t.memPermAct p).getLsbD 3 = false
        else vecGet t.memMapAct p = vecGet s.memMapAct p ∧ vecGet t.memPermAct p = vecGet s.memPermAct p) ∧
      (∀ i, vecGet t.bsel i = if flip = true ∧ i = c then g else vecGet s.bsel i) ∧
      (∀ b, cached t b =
        if b = a ∨ b = a - 1#16 ∨ b = a - 2#16 then none
        else if flip = true ∧ b - (lo - 2#16) ≤ a - (lo - 2#16) then none else cached s b) ∧
      t = { afterShadow a s with
        memMapAct := t.memMapAct, memPermAct := t.memPermAct, bsel := t.bsel, icache := t.icache
        response := .done }

/-- With the mapper on and its paragraph not writable, the three mapper ranges set one map index, one permission and
one page-flip entry, in the copy that the address selects, with the spec's default packing; an active entry resets the
records of its paragraph. Nothing else changes but the PV shadow and the generator (43_locutus_bus.md R312 to R314, the
spec's own decision 92_eei_decisions.md D29). -/
def Obligations.MapperSetsOneEntry : Prop :=
  ∀ (s : State) (copy : MapCopy) (p : BitVec 8) (c g : BitVec 4) (v : Word), s.quiet →
    s.featureFlags.getLsbD 32 = true →
    (shadowOk s (mapSetAddr copy p) → permW (activePerm s (mapSetAddr copy p)) = false →
      ∃ t, exec (.mapSet copy p v) s = .next t ∧
        (∀ i, vecGet t.memMapAct i = if copy = .active ∧ i = p then v else vecGet s.memMapAct i) ∧
        (∀ i, vecGet t.memMapRst i = if copy = .resetDefault ∧ i = p then v else vecGet s.memMapRst i) ∧
        (∀ b, cached t b =
          if b = mapSetAddr copy p ∨ b = mapSetAddr copy p - 1#16 ∨ b = mapSetAddr copy p - 2#16 then none
          else if copy = .active ∧ b - (p ++ 0#8 - 2#16) ≤ 0x101#16 then none else cached s b) ∧
        t = { afterShadow (mapSetAddr copy p) s with
          memMapAct := t.memMapAct, memMapRst := t.memMapRst, icache := t.icache, response := .done }) ∧
    (shadowOk s (permSetAddr copy p) → permW (activePerm s (permSetAddr copy p)) = false →
      ∃ t, exec (.permSet copy p v) s = .next t ∧
        (∀ i, vecGet t.memPermAct i =
          if copy = .active ∧ i = p then v.extractLsb' 0 4 else vecGet s.memPermAct i) ∧
        (∀ i, vecGet t.memPermRst i =
          if copy = .resetDefault ∧ i = p then v.extractLsb' 0 4 else vecGet s.memPermRst i) ∧
        (∀ b, cached t b =
          if b = permSetAddr copy p ∨ b = permSetAddr copy p - 1#16 ∨ b = permSetAddr copy p - 2#16 then none
          else if copy = .active ∧ b - (p ++ 0#8 - 2#16) ≤ 0x101#16 then none else cached s b) ∧
        t = { afterShadow (permSetAddr copy p) s with
          memPermAct := t.memPermAct, memPermRst := t.memPermRst, icache := t.icache, response := .done }) ∧
    (shadowOk s (pflSetAddr c g) → permW (activePerm s (pflSetAddr c g)) = false →
      ∃ t, exec (.pflSet c g v) s = .next t ∧
        (s.params.pflPack = .specDefault →
          (∀ i, vecGet t.pflMap i = if i = c ++ g then v.extractLsb' 0 12 else vecGet s.pflMap i) ∧
          (∀ i, vecGet t.pflPerm i = if i = c ++ g then v.extractLsb' 12 4 else vecGet s.pflPerm i)) ∧
        (∀ i : BitVec 8, i ≠ c ++ g →
          vecGet t.pflMap i = vecGet s.pflMap i ∧ vecGet t.pflPerm i = vecGet s.pflPerm i) ∧
        coverReset (pflSetAddr c g) s t ∧
        t = { afterShadow (pflSetAddr c g) s with
          pflMap := t.pflMap, pflPerm := t.pflPerm, icache := t.icache, response := .done })

/-- Where the mapper is off or its paragraph is writable, a write to a mapper address changes no table: it is an
ordinary store, or dropped (43_locutus_bus.md R312). -/
def Obligations.ClosedMapperChangesNoTable : Prop :=
  ∀ (s t : State) (a v : Word), 0x1000 ≤ a.toNat → a.toNat ≤ 0x14FF →
    s.featureFlags.getLsbD 32 = false ∨ permW (activePerm s a) = true →
    exec (.busWrite a v) s = .next t →
    t.memMapAct = s.memMapAct ∧ t.memMapRst = s.memMapRst ∧ t.memPermAct = s.memPermAct ∧
      t.memPermRst = s.memPermRst ∧ t.pflMap = s.pflMap ∧ t.pflPerm = s.pflPerm ∧ t.bsel = s.bsel

/-- The unlock, with the accelerator off in a mode that allows it, turns it on: paragraphs $80-$9F map to themselves
with {R,W}, their records are reset, the value is not stored, and nothing else changes but the PV shadow and the
generator (43_locutus_bus.md R306, 44_jlp_window.md R351, the spec's own decisions 92_eei_decisions.md D27, D28). -/
def Obligations.UnlockTurnsAcceleratorOn : Prop :=
  ∀ (s : State), s.quiet → s.jlpAccelOn = false → s.params.jlpMode ≠ .disabled → shadowOk s 0x8033#16 →
    ∃ t, exec (.jlpUnlock 0x4A5A#16) s = .next t ∧ t.jlpAccelOn = true ∧
      (∀ p : BitVec 8,
        (vecGet t.memMapAct p, vecGet t.memPermAct p) =
          if 0x80 ≤ p.toNat ∧ p.toNat ≤ 0x9F then (p.setWidth 16, 0b0011#4)
          else (vecGet s.memMapAct p, vecGet s.memPermAct p)) ∧
      (∀ b, cached t b = if 0x7FFE ≤ b.toNat ∧ b.toNat ≤ 0x9FFF then none else cached s b) ∧
      t = { afterShadow 0x8033#16 s with
        jlpAccelOn := true, memMapAct := t.memMapAct, memPermAct := t.memPermAct, icache := t.icache
        response := .done }

/-- A lock write that the supplied lock value accepts turns the accelerator off and puts the remembered pages of
chapters 8 and 9 back, with no test of B; a value it does not accept is dropped; with no lock value supplied the write
is refused by name (44_jlp_window.md R352, 60_exceptions.md R406, the spec's own decisions 92_eei_decisions.md D27,
D28). -/
def Obligations.LockTurnsAcceleratorOff : Prop :=
  ∀ (s : State) (v : Word), s.quiet → s.jlpAccelOn = true → shadowOk s 0x8034#16 →
    (s.params.jlpLockValue = none → exec (.jlpLock v) s = .refused (.parameterOpen .jlpLockValue)) ∧
    (∀ accepted, s.params.jlpLockValue = some accepted →
      ∃ t, exec (.jlpLock v) s = .next t ∧
        if accepted = none ∨ accepted = some v then
          t.jlpAccelOn = false ∧
          (∀ c ∈ [8#4, 9#4], ∀ i : BitVec 4,
            vecGet t.memMapAct (c ++ i) =
              (vecGet s.pflMap (c ++ vecGet s.bsel c)).setWidth 16 + i.setWidth 16 ∧
            vecGet t.memPermAct (c ++ i) = vecGet s.pflPerm (c ++ vecGet s.bsel c) &&& 0b0111#4) ∧
          (∀ p : BitVec 8, ¬(0x80 ≤ p.toNat ∧ p.toNat ≤ 0x9F) →
            vecGet t.memMapAct p = vecGet s.memMapAct p ∧ vecGet t.memPermAct p = vecGet s.memPermAct p) ∧
          (∀ b, cached t b = if 0x7FFE ≤ b.toNat ∧ b.toNat ≤ 0x9FFF then none else cached s b) ∧
          t = { afterShadow 0x8034#16 s with
            jlpAccelOn := false, memMapAct := t.memMapAct, memPermAct := t.memPermAct, icache := t.icache
            response := .done }
        else coverReset 0x8034#16 s t ∧
          t = { afterShadow 0x8034#16 s with icache := t.icache, response := .done })

/-! ### The JLP -/

/-- Writing either half of a multiply pair puts the 32-bit product of the new halves in `$9F8F`:`$9F8E`, with the
signedness of the pair; of the other registers only the written one and the PV register can change
(44_jlp_window.md R357, the spec's own decision 92_eei_decisions.md D36). -/
def Obligations.MultiplyPairsGiveProduct : Prop :=
  ∀ (s : State) (half : BitVec 1) (v : Word), s.quiet → s.jlpAccelOn = true →
    ∀ p ∈ [(0, Instr.jlpMulSs half v, fun (x y : Word) => x.toInt * y.toInt),
        (1, .jlpMulSu half v, fun x y => x.toInt * (y.toNat : Int)),
        (2, .jlpMulUs half v, fun x y => (x.toNat : Int) * y.toInt),
        (3, .jlpMulUu half v, fun x y => ((x.toNat * y.toNat : Nat) : Int))],
      let a : Word := 0x9F80#16 + BitVec.ofNat 16 (2 * p.1) + half.setWidth 16
      let x := if half = 0#1 then v else vecGet s.jlpReg (BitVec.ofNat 4 (2 * p.1))
      let y := if half = 1#1 then v else vecGet s.jlpReg (BitVec.ofNat 4 (2 * p.1 + 1))
      shadowOk s a →
      ∃ t, exec p.2.1 s = .next t ∧
        vecGet t.jlpReg 15#4 ++ vecGet t.jlpReg 14#4 = BitVec.ofInt 32 (p.2.2 x y) ∧
        (∀ i : BitVec 4, i ≠ 14#4 → i ≠ 15#4 → vecGet t.jlpReg i =
          if i = BitVec.ofNat 4 (2 * p.1) + half.setWidth 4 then v
          else vecGet (afterShadow a s).jlpReg i) ∧
        coverReset a s t ∧
        t = { afterShadow a s with jlpReg := t.jlpReg, icache := t.icache, response := .done }

/-- Writing either half of a divide pair puts the quotient in `$9F8E` and the remainder in `$9F8F`, signed and
truncated or unsigned; a division by zero leaves both as they were (44_jlp_window.md R357, R358, the spec's own decision
92_eei_decisions.md D36). -/
def Obligations.DividePairsGiveQuotientAndRemainder : Prop :=
  ∀ (s : State) (half : BitVec 1) (v : Word), s.quiet → s.jlpAccelOn = true →
    ∀ p ∈ [(4, Instr.jlpDivSs half v,
          fun (x y : Word) => (BitVec.ofInt 16 (x.toInt.tdiv y.toInt), BitVec.ofInt 16 (x.toInt.tmod y.toInt))),
        (5, .jlpDivUu half v, fun x y => (x / y, x % y))],
      let a : Word := 0x9F80#16 + BitVec.ofNat 16 (2 * p.1) + half.setWidth 16
      let x := if half = 0#1 then v else vecGet s.jlpReg (BitVec.ofNat 4 (2 * p.1))
      let y := if half = 1#1 then v else vecGet s.jlpReg (BitVec.ofNat 4 (2 * p.1 + 1))
      shadowOk s a →
      ∃ t, exec p.2.1 s = .next t ∧
        (vecGet t.jlpReg 14#4, vecGet t.jlpReg 15#4) =
          (if y = 0#16 then (vecGet s.jlpReg 14#4, vecGet s.jlpReg 15#4) else p.2.2 x y) ∧
        (∀ i : BitVec 4, i ≠ 14#4 → i ≠ 15#4 → vecGet t.jlpReg i =
          if i = BitVec.ofNat 4 (2 * p.1) + half.setWidth 4 then v
          else vecGet (afterShadow a s).jlpReg i) ∧
        coverReset a s t ∧
        t = { afterShadow a s with jlpReg := t.jlpReg, icache := t.icache, response := .done }

/-- The signed division: dividend is quotient times divisor plus remainder, the remainder is smaller than the divisor
and has the sign of the dividend, and the one overflow case stores 0x8000 and 0 (44_jlp_window.md R358, the spec's own
rounding). -/
def Obligations.SignedDivisionTruncates : Prop :=
  (∀ x y : Int, y ≠ 0 →
    x = sdivQuotient x y * y + sdivRemainder x y ∧ |sdivRemainder x y| < |y| ∧
      (0 ≤ x → 0 ≤ sdivRemainder x y) ∧ (x ≤ 0 → sdivRemainder x y ≤ 0)) ∧
  BitVec.ofInt 16 (sdivQuotient (0x8000#16).toInt (0xFFFF#16).toInt) = 0x8000#16 ∧
  BitVec.ofInt 16 (sdivRemainder (0x8000#16).toInt (0xFFFF#16).toInt) = 0#16

/-- While the accelerator is on, the registers that start no operation take the written value: `$9F8C`-`$9F8F`, the two
staging registers, the CRC accumulator (set, or folded), and the wired extended registers. An unwired extended
register, every address of the write window that names no register, and `$8033`, the unlock of an accelerator already on,
drop it. Nothing else changes but the PV shadow, the generator and the cache cover (44_jlp_window.md R351, R354, R356,
R359, R360, R361, R363, R364, the spec's own decision 92_eei_decisions.md D35). -/
def Obligations.JlpRegisterWrites : Prop :=
  ∀ (s : State) (v : Word), s.quiet → s.jlpAccelOn = true →
    (∀ i : BitVec 2, shadowOk s (jlpRegAddr (3#2 ++ i)) → ∃ t, exec (.jlpRegWrite i v) s = .next t ∧
      coverReset (jlpRegAddr (3#2 ++ i)) s t ∧ t = { afterShadow (jlpRegAddr (3#2 ++ i)) s with
        jlpReg := vecSet (afterShadow (jlpRegAddr (3#2 ++ i)) s).jlpReg (3#2 ++ i) v
        icache := t.icache, response := .done }) ∧
    (shadowOk s 0x8025#16 → ∃ t, exec (.jlpSgAddr v) s = .next t ∧
      coverReset 0x8025#16 s t ∧ t = { afterShadow 0x8025#16 s with
        sgAddr := v, icache := t.icache, response := .done }) ∧
    (shadowOk s 0x8026#16 → ∃ t, exec (.jlpSgRow v) s = .next t ∧
      coverReset 0x8026#16 s t ∧ t = { afterShadow 0x8026#16 s with
        sgRow := v, icache := t.icache, response := .done }) ∧
    (shadowOk s 0x9FFC#16 → ∃ t, exec (.jlpCrcFold v) s = .next t ∧
      coverReset 0x9FFC#16 s t ∧ t = { afterShadow 0x9FFC#16 s with
        jlpCrc := crc16Fold s.jlpCrc v, icache := t.icache, response := .done }) ∧
    (shadowOk s 0x9FFD#16 → ∃ t, exec (.jlpCrcAccess (.write v)) s = .next t ∧
      coverReset 0x9FFD#16 s t ∧ t = { afterShadow 0x9FFD#16 s with
        jlpCrc := v, icache := t.icache, response := .done }) ∧
    (∀ i : BitVec 4, shadowOk s (extRegAddr i) → ∃ t, exec (.jlpExtReg i (.write v)) s = .next t ∧
      (∀ j, vecGet t.ext j = if s.params.extRegsWired = true ∧ j = i then v else vecGet s.ext j) ∧
      coverReset (extRegAddr i) s t ∧ t = { afterShadow (extRegAddr i) s with
        ext := t.ext, icache := t.icache, response := .done }) ∧
    (shadowOk s 0x8033#16 → ∃ t, exec (.jlpUnlock v) s = .next t ∧
      coverReset 0x8033#16 s t ∧ t = { afterShadow 0x8033#16 s with icache := t.icache, response := .done }) ∧
    (∀ a : Word, shadowOk s a →
      0x8000 ≤ a.toNat ∧ a.toNat ≤ 0x803F ∨ 0x9FA0 ≤ a.toNat ∧ a.toNat ≤ 0x9FFB ∨ a = 0x9FFE#16 →
      a ∉ [0x8025#16, 0x8026#16, 0x802D#16, 0x802E#16, 0x802F#16, 0x8033#16, 0x8034#16] →
      ∃ t, exec (.busWrite a v) s = .next t ∧
        coverReset a s t ∧ t = { afterShadow a s with icache := t.icache, response := .done })

/-- A save-game command with its magic value, in a mode with flash and with the geometry supplied, charges a latency in
its range in every case; RAM to flash writes an erased row inside the bounds, byte by byte, low byte first, from the
mapped words of the staged area, and leaves every other byte of the flash (44_jlp_window.md R365, R366, R369, R370, the
spec's own decisions 92_eei_decisions.md D41 to D43). -/
def Obligations.RamToFlashWritesErasedRow : Prop :=
  ∀ (s : State) (n lo hi : Nat), s.quiet → s.jlpAccelOn = true → shadowOk s 0x802D#16 →
    s.params.jlpMode = .accelFlashOn → s.params.flashRowWords = some n → s.params.flashStartRow = some lo →
    s.params.flashEndRow = some hi → (∀ j < n, phys s (s.sgAddr + BitVec.ofNat 16 j) < 0x80000) →
    let row := s.sgRow.toNat * (2 * n)
    let valid := lo ≤ s.sgRow.toNat ∧ s.sgRow.toNat < hi ∧ 0x8040 ≤ s.sgAddr.toNat ∧
      s.sgAddr.toNat + n - 1 ≤ 0x9F7F
    let erased := ∀ j < 2 * n, flashByte s (row + j) = 0xFF#8
    ∃ t, exec (.jlpRamToFlash 0xC0DE#16) s = .next t ∧ 400 ≤ t.jlpSleep ∧ t.jlpSleep ≤ 599 ∧
      (valid ∧ erased →
        (∀ j < n,
          flashByte t (row + 2 * j) = (ramWord s (phys s (s.sgAddr + BitVec.ofNat 16 j))).extractLsb' 0 8 ∧
          flashByte t (row + 2 * j + 1) = (ramWord s (phys s (s.sgAddr + BitVec.ofNat 16 j))).extractLsb' 8 8) ∧
        ∀ k, k < row ∨ row + 2 * n ≤ k → flashByte t k = flashByte s k) ∧
      (¬(valid ∧ erased) → t.flash = s.flash) ∧ coverReset 0x802D#16 s t ∧
      t = { afterShadow 0x802D#16 s with
        flash := t.flash, jlpSleep := t.jlpSleep, draws := t.draws, icache := t.icache, response := .done }

/-- Flash to RAM charges a latency in its range in every case; inside the bounds it writes the row's words to the mapped
words of the staged area and marks them initialized, every other word of the store stays, and the copied range is reset
in the cache; outside the bounds it moves nothing (44_jlp_window.md R365, R367, R369, R370, the spec's own decisions
92_eei_decisions.md D41 to D43). The staged words are taken to lie at distinct places of the store. -/
def Obligations.FlashToRamRestoresWords : Prop :=
  ∀ (s : State) (n lo hi : Nat), s.quiet → s.jlpAccelOn = true → shadowOk s 0x802E#16 →
    s.params.jlpMode = .accelFlashOn → s.params.flashRowWords = some n → s.params.flashStartRow = some lo →
    s.params.flashEndRow = some hi → (∀ j < n, phys s (s.sgAddr + BitVec.ofNat 16 j) < 0x80000) →
    (∀ j < n, ∀ k < n, phys s (s.sgAddr + BitVec.ofNat 16 j) = phys s (s.sgAddr + BitVec.ofNat 16 k) → j = k) →
    let row := s.sgRow.toNat * (2 * n)
    let valid := lo ≤ s.sgRow.toNat ∧ s.sgRow.toNat < hi ∧ 0x8040 ≤ s.sgAddr.toNat ∧
      s.sgAddr.toNat + n - 1 ≤ 0x9F7F
    let staged := fun k => ∃ j < n, phys s (s.sgAddr + BitVec.ofNat 16 j) = k
    ∃ t, exec (.jlpFlashToRam 0xDEC0#16) s = .next t ∧ 10 ≤ t.jlpSleep ∧ t.jlpSleep ≤ 29 ∧
      (valid →
        (∀ j < n, ramWord t (phys s (s.sgAddr + BitVec.ofNat 16 j)) =
          flashByte s (row + 2 * j + 1) ++ flashByte s (row + 2 * j)) ∧
        (∀ j < n, isInitialized t (phys s (s.sgAddr + BitVec.ofNat 16 j)) = true) ∧
        ∀ k, ¬staged k → ramWord t k = ramWord s k ∧ isInitialized t k = isInitialized s k) ∧
      (¬valid → t.ram = s.ram ∧ t.initialized = s.initialized) ∧
      (∀ b, cached t b =
        if b = 0x802E#16 ∨ b = 0x802D#16 ∨ b = 0x802C#16 then none
        else if valid ∧ (b - (s.sgAddr - 2#16)).toNat ≤ n + 1 then none else cached s b) ∧
      t = { afterShadow 0x802E#16 s with
        ram := t.ram, initialized := t.initialized, jlpSleep := t.jlpSleep, draws := t.draws
        icache := t.icache, response := .done }

/-- Sector erase charges a latency in its range in every case; with the staged row inside the bounds it sets to 0xFF
every byte of the rows of its aligned eight-row sector that lie inside the bounds, and no other; else it moves nothing
(44_jlp_window.md R368, R369, the spec's own decisions 92_eei_decisions.md D41, D42). -/
def Obligations.SectorEraseSetsSector : Prop :=
  ∀ (s : State) (n lo hi : Nat), s.quiet → s.jlpAccelOn = true → shadowOk s 0x802F#16 →
    s.params.jlpMode = .accelFlashOn → s.params.flashRowWords = some n → s.params.flashStartRow = some lo →
    s.params.flashEndRow = some hi →
    let valid := lo ≤ s.sgRow.toNat ∧ s.sgRow.toNat < hi
    let first := s.sgRow.toNat - s.sgRow.toNat % 8
    ∃ t, exec (.jlpSectorErase 0xBEEF#16) s = .next t ∧ 800 ≤ t.jlpSleep ∧ t.jlpSleep ≤ 999 ∧
      (∀ r j, j < 2 * n →
        flashByte t (r * (2 * n) + j) =
          if valid ∧ first ≤ r ∧ r ≤ first + 7 ∧ lo ≤ r ∧ r < hi then 0xFF#8
          else flashByte s (r * (2 * n) + j)) ∧
      coverReset 0x802F#16 s t ∧
      t = { afterShadow 0x802F#16 s with
        flash := t.flash, jlpSleep := t.jlpSleep, draws := t.draws, icache := t.icache, response := .done }

/-- A save-game command with its magic value charges its latency and moves nothing where JLP_MODE has no flash, and
where the bounds fail whatever the missing parameters are: the row below a supplied start or not below a supplied end,
or, for the two copies, the RAM address below `$8040`, above `$9F80`, or too high for a supplied row size. Anywhere else
a missing parameter refuses the command by its name, the start row before the end row before the row size
(00_scope.md R9, 44_jlp_window.md R365, R369, 60_exceptions.md R406, the spec's own decision 92_eei_decisions.md D42;
which missing parameter is named, and that what the flash holds does not matter, is the model's choice, log 18). -/
def Obligations.CommandsWithoutFlashMoveNothing : Prop :=
  ∀ (s : State), s.quiet → s.jlpAccelOn = true →
    ∀ p ∈ [(0x802D#16, Instr.jlpRamToFlash 0xC0DE#16, 400, 599, true),
        (0x802E#16, .jlpFlashToRam 0xDEC0#16, 10, 29, true), (0x802F#16, .jlpSectorErase 0xBEEF#16, 800, 999, false)],
      shadowOk s p.1 →
      let row := s.sgRow.toNat
      let addr := s.sgAddr.toNat
      let badRow := (∃ lo, s.params.flashStartRow = some lo ∧ row < lo) ∨
        ∃ hi, s.params.flashEndRow = some hi ∧ hi ≤ row
      let badAddress := addr < 0x8040 ∨ 0x9F80 < addr ∨
        ∃ n, s.params.flashRowWords = some n ∧ 0x9F7F < addr + n - 1
      let bad := s.params.jlpMode ≠ .accelFlashOn ∨ badRow ∨ p.2.2.2.2 = true ∧ badAddress
      (bad →
        ∃ t, exec p.2.1 s = .next t ∧ p.2.2.1 ≤ t.jlpSleep ∧ t.jlpSleep ≤ p.2.2.2.1 ∧ coverReset p.1 s t ∧
          t = { afterShadow p.1 s with
            jlpSleep := t.jlpSleep, draws := t.draws, icache := t.icache, response := .done }) ∧
      (¬bad →
        (s.params.flashStartRow = none → exec p.2.1 s = .refused (.parameterOpen .flashStartRow)) ∧
        (s.params.flashStartRow ≠ none → s.params.flashEndRow = none →
          exec p.2.1 s = .refused (.parameterOpen .flashEndRow)) ∧
        (s.params.flashStartRow ≠ none → s.params.flashEndRow ≠ none → s.params.flashRowWords = none →
          exec p.2.1 s = .refused (.parameterOpen .flashRowWords)))

/-- A command register written with any value but its magic one does nothing: no data moves and no latency is charged
(44_jlp_window.md R356, the spec's own decision 92_eei_decisions.md D35). -/
def Obligations.WrongMagicDoesNothing : Prop :=
  ∀ (s : State) (v : Word), s.quiet → s.jlpAccelOn = true →
    ∀ p ∈ [(0x802D#16, 0xC0DE#16, Instr.jlpRamToFlash v), (0x802E#16, 0xDEC0#16, .jlpFlashToRam v),
        (0x802F#16, 0xBEEF#16, .jlpSectorErase v)],
      v ≠ p.2.1 → shadowOk s p.1 →
      ∃ t, exec p.2.2 s = .next t ∧ coverReset p.1 s t ∧
        t = { afterShadow p.1 s with icache := t.icache, response := .done }

/-- The save-game round trip: RAM to flash into an erased row, then, once the latency has run down and whatever the
store holds by then, flash to RAM with the same staging gives every staged word back
(95_test_vectors.md V-L1-8, 44_jlp_window.md R366, R367). -/
def Obligations.SaveGameRoundTripRestoresWords : Prop :=
  ∀ (s t u v : State) (n : Nat), s.quiet → s.jlpAccelOn = true → s.params.jlpMode = .accelFlashOn →
    s.params.flashRowWords = some n → copyValid s = .ok true →
    (∀ j < 2 * n, flashByte s (s.sgRow.toNat * (2 * n) + j) = 0xFF#8) →
    exec (.jlpRamToFlash 0xC0DE#16) s = .next t → t.fault = none →
    u.quiet → u.jlpAccelOn = true → u.flash = t.flash → u.params = s.params → u.sgAddr = s.sgAddr →
    u.sgRow = s.sgRow → u.memMapAct = s.memMapAct →
    (∀ j < n, ∀ k < n, phys s (s.sgAddr + BitVec.ofNat 16 j) = phys s (s.sgAddr + BitVec.ofNat 16 k) → j = k) →
    exec (.jlpFlashToRam 0xDEC0#16) u = .next v → v.fault = none →
    ∀ j < n, ramWord v (phys s (s.sgAddr + BitVec.ofNat 16 j)) =
      ramWord s (phys s (s.sgAddr + BitVec.ofNat 16 j))

/-! ### The CRC engine -/

/-- The CRC updates of an admitted width and polynomial return the new running value and change nothing else: the
operand reduced to the width, the byte XOR-ed in at the low or the high end, eight shifts; a block byte by byte in
index order (40_crc.md R142, R143, R144). -/
def Obligations.CrcUpdatesComplete : Prop :=
  ∀ (s : State) (w p c : Nat) (b : Byte) (bs : List Byte) (dir : CrcDir), s.fault = none →
    8 ≤ w → w ≤ 32 → p < 2 ^ w →
      exec (.crcUpdateByteRight w p c b) s = .next { s with
        response := .crc ((fun k : BitVec w => if k.getLsbD 0 then (k >>> 1) ^^^ BitVec.ofNat w p else k >>> 1)^[8]
          (BitVec.ofNat w c ^^^ b.setWidth w)).toNat } ∧
      exec (.crcUpdateByteLeft w p c b) s = .next { s with
        response := .crc ((fun k : BitVec w => if k.getMsbD 0 then (k <<< 1) ^^^ BitVec.ofNat w p else k <<< 1)^[8]
          (BitVec.ofNat w c ^^^ (b.setWidth w <<< (w - 8)))).toNat } ∧
      exec (.crcUpdateBlock dir w p c bs) s = .next { s with
        response := .crc (bs.foldl (fun k b => match dir with
          | .right => crcByteRight (BitVec.ofNat w p) k b
          | .left => crcByteLeft (BitVec.ofNat w p) k b) (BitVec.ofNat w c)).toNat }

/-- A CRC operation outside the admitted widths, or with a polynomial that its width cannot hold, is refused by name
(40_crc.md R140; the refusal of the polynomial is log 17). -/
def Obligations.UnadmittedCrcIsRefused : Prop :=
  ∀ (s : State) (w p c : Nat) (b : Byte) (bs : List Byte) (dir : CrcDir), s.fault = none →
    ¬(8 ≤ w ∧ w ≤ 32 ∧ p < 2 ^ w) →
      exec (.crcUpdateByteRight w p c b) s = .refused (.crcUnadmitted w p) ∧
      exec (.crcUpdateByteLeft w p c b) s = .refused (.crcUnadmitted w p) ∧
      exec (.crcUpdateBlock dir w p c bs) s = .refused (.crcUnadmitted w p)

/-- The table-driven forms of the CRC byte updates equal the bit-serial ones, for every width the engine admits, every
polynomial, running value and byte (40_crc.md R145). -/
def Obligations.TableDrivenCrcIsBitSerial : Prop :=
  ∀ (w : Nat) (p c : BitVec w) (b : Byte), 8 ≤ w → w ≤ 32 →
    crcByteRight p c b = (c >>> 8) ^^^ crcByteRight p 0#w (c.setWidth 8 ^^^ b) ∧
    crcByteLeft p c b = (c <<< 8) ^^^ crcByteLeft p 0#w (c.extractLsb' (w - 8) 8 ^^^ b)

/-- The word fold completes and changes nothing else: it folds the low byte, then the high byte, which equals XOR-ing
the whole word in and shifting sixteen times, and folding a value into itself gives 0 (40_crc.md R146, the byte order is
the spec's own decision 92_eei_decisions.md D37). -/
def Obligations.WordFoldIsSixteenShifts : Prop :=
  ∀ (s : State) (c v : Word), s.fault = none →
    let folded := (fun k : Word => if k.getLsbD 0 then (k >>> 1) ^^^ 0xAD52#16 else k >>> 1)^[16] (c ^^^ v)
    exec (.crc16Fold c v) s = .next { s with response := .crc folded.toNat } ∧
    crcByteRight 0xAD52#16 (crcByteRight 0xAD52#16 c (v.extractLsb' 0 8)) (v.extractLsb' 8 8) = folded ∧
    exec (.crc16Fold c c) s = .next { s with response := .crc 0 }

/-! ### Reset, tick, invalidate -/

/-- Reset copies the reset tables into the active ones, clears the remembered pages, sets the accelerator and the LTO
output from the mode and flag 32, remaps $80-$9F where the mode turns the accelerator on, empties the decode cache, and
leaves everything else (70_reset_and_hazards.md R430, the spec's own decisions 92_eei_decisions.md D32, D34; the emptied
cache is log 11). -/
def Obligations.ResetInstallsResetTables : Prop :=
  ∀ (s : State), s.fault = none →
    let on := s.params.jlpMode = .accelOn ∨ s.params.jlpMode = .accelFlashOn
    ∃ t, exec .reset s = .next t ∧
      (∀ p : BitVec 8,
        (vecGet t.memMapAct p, vecGet t.memPermAct p) =
          if (s.params.jlpMode == .accelOn || s.params.jlpMode == .accelFlashOn) && 0x80#8 ≤ p && p ≤ 0x9F#8 then
            (p.setWidth 16, 0b0011#4)
          else (vecGet s.memMapRst p, vecGet s.memPermRst p)) ∧
      (∀ c, vecGet t.bsel c = 0#4) ∧ (t.jlpAccelOn = true ↔ on) ∧
      (t.ltoIsaEnabled = true ↔ s.params.jlpMode ≠ .disabled ∨ s.featureFlags.getLsbD 32 = true) ∧
      (∀ b, cached t b = none) ∧
      t = { s with
        memMapAct := t.memMapAct, memPermAct := t.memPermAct, bsel := t.bsel, jlpAccelOn := t.jlpAccelOn
        ltoIsaEnabled := t.ltoIsaEnabled, icache := t.icache, response := .done }

/-- Tick takes n times the supplied decrement from the sleep counter, down to 0, and changes nothing else; with no
decrement supplied it is refused by name. Invalidate resets exactly the records from lo - 2 up to hi, counting upward
modulo 2^16, and every record where the range lo to hi spans the whole space or all but its last word
(60_exceptions.md R406, R410, 41_decode.md R174, log 11). -/
def Obligations.TickAndInvalidate : Prop :=
  ∀ (s : State) (n : Nat) (lo hi : Word), s.fault = none →
    (∀ d, s.params.tickDecrement = some d →
      exec (.tick n) s = .next { s with jlpSleep := s.jlpSleep - n * d, response := .done }) ∧
    (s.params.tickDecrement = none → exec (.tick n) s = .refused (.parameterOpen .tickDecrement)) ∧
    ∃ t, exec (.invalidate lo hi) s = .next t ∧
      (∀ b, cached t b =
        if lo ≤ hi ∧ 0xFFFE#16 ≤ hi - lo ∨ b - (lo - 2#16) ≤ hi - (lo - 2#16) then none else cached s b) ∧
      t = { s with icache := t.icache, response := .done }

/-! ### The whole machine -/

/-- The machine right after reset satisfies the invariant. -/
def Obligations.ResetStateSatisfiesInvariant : Prop := State.reset.Inv

/-- Every step keeps the invariant: the tables stay canonical and inside the address spaces, every cached record stays
coherent with its address, length and lookback, the sleep counter stays within the longest latency, the accelerator is on
only in a mode that allows it, and no decode is left in progress (10_state.md R22, R23, R39, 44_jlp_window.md R350). -/
def Obligations.StepKeepsInvariant : Prop := ∀ s t : State, s.Inv → step s = .next t → t.Inv

/-- No step changes the parameters, the feature flags or the uid; the reset copies of the tables change only in a write
to $1000-$13FF, and the page-flip table only in a write to $1400-$14FF (10_state.md R28, R30, R32, R35). -/
def Obligations.ConfigurationIsKept : Prop :=
  ∀ s t : State, step s = .next t →
    t.params = s.params ∧ t.featureFlags = s.featureFlags ∧ t.uid = s.uid ∧
    ((∀ a v rest, s.requests = .write a v :: rest → ¬(0x1000 ≤ a.toNat ∧ a.toNat ≤ 0x13FF)) →
      t.memMapRst = s.memMapRst ∧ t.memPermRst = s.memPermRst) ∧
    ((∀ a v rest, s.requests = .write a v :: rest → ¬(0x1400 ≤ a.toNat ∧ a.toNat ≤ 0x14FF)) →
      t.pflMap = s.pflMap ∧ t.pflPerm = s.pflPerm)

/-- The remembered pages change only in a reset, which clears them, and in a page-flip write, which sets its chapter's
(43_locutus_bus.md R311). -/
def Obligations.RememberedPagesHaveTwoWriters : Prop :=
  ∀ s t : State, step s = .next t →
    t.bsel = s.bsel ∨
    (∃ rest, s.requests = .reset :: rest ∧ ∀ c, vecGet t.bsel c = 0#4) ∨
    (∃ a v rest, s.requests = .write a v :: rest ∧ a.extractLsb' 0 12 = 0xFFF#12 ∧
      v &&& s.params.pflSigMask = 0x0A50#16 ∧
      ∀ c, vecGet t.bsel c = if c = a.extractLsb' 12 4 then v.extractLsb' 0 4 else vecGet s.bsel c)

/-- No operation reads or writes the uid: two machines that differ in it alone answer alike, and differ in it alone
afterwards (10_state.md R35). -/
def Obligations.UidIsNeverRead : Prop :=
  ∀ (i : Instr) (s : State) (u : BitVec 64),
    exec i { s with uid := u } =
      match exec i s with
      | .next t => .next { t with uid := u }
      | .fault r => .fault r
      | .refused r => .refused r
end

