-- ==== Sys2Proof/Laws/State.lean ====
section
/-! SUPPORT. Every field after every named update of the state: the field's new value, or the field as it was. -/

namespace Sys2Proof.Machine

/-! ### mixRng -/

@[simp] theorem mixRng_icache (a : Word) (s : State) : (mixRng a s).icache = s.icache := rfl
@[simp] theorem mixRng_fault (a : Word) (s : State) : (mixRng a s).fault = s.fault := rfl
@[simp] theorem mixRng_ram (a : Word) (s : State) : (mixRng a s).ram = s.ram := rfl
@[simp] theorem mixRng_initialized (a : Word) (s : State) : (mixRng a s).initialized = s.initialized := rfl
@[simp] theorem mixRng_memMapAct (a : Word) (s : State) : (mixRng a s).memMapAct = s.memMapAct := rfl
@[simp] theorem mixRng_memMapRst (a : Word) (s : State) : (mixRng a s).memMapRst = s.memMapRst := rfl
@[simp] theorem mixRng_memPermAct (a : Word) (s : State) : (mixRng a s).memPermAct = s.memPermAct := rfl
@[simp] theorem mixRng_memPermRst (a : Word) (s : State) : (mixRng a s).memPermRst = s.memPermRst := rfl
@[simp] theorem mixRng_pflMap (a : Word) (s : State) : (mixRng a s).pflMap = s.pflMap := rfl
@[simp] theorem mixRng_pflPerm (a : Word) (s : State) : (mixRng a s).pflPerm = s.pflPerm := rfl
@[simp] theorem mixRng_bsel (a : Word) (s : State) : (mixRng a s).bsel = s.bsel := rfl
@[simp] theorem mixRng_featureFlags (a : Word) (s : State) : (mixRng a s).featureFlags = s.featureFlags := rfl
@[simp] theorem mixRng_jlpAccelOn (a : Word) (s : State) : (mixRng a s).jlpAccelOn = s.jlpAccelOn := rfl
@[simp] theorem mixRng_ltoIsaEnabled (a : Word) (s : State) : (mixRng a s).ltoIsaEnabled = s.ltoIsaEnabled := rfl
@[simp] theorem mixRng_uid (a : Word) (s : State) : (mixRng a s).uid = s.uid := rfl
@[simp] theorem mixRng_jlpReg (a : Word) (s : State) : (mixRng a s).jlpReg = s.jlpReg := rfl
@[simp] theorem mixRng_jlpCrc (a : Word) (s : State) : (mixRng a s).jlpCrc = s.jlpCrc := rfl
@[simp] theorem mixRng_jlpSleep (a : Word) (s : State) : (mixRng a s).jlpSleep = s.jlpSleep := rfl
@[simp] theorem mixRng_jlpRng (a : Word) (s : State) :
    (mixRng a s).jlpRng = Config.rngMix s.draws s.jlpRng a := rfl
@[simp] theorem mixRng_sgAddr (a : Word) (s : State) : (mixRng a s).sgAddr = s.sgAddr := rfl
@[simp] theorem mixRng_sgRow (a : Word) (s : State) : (mixRng a s).sgRow = s.sgRow := rfl
@[simp] theorem mixRng_flash (a : Word) (s : State) : (mixRng a s).flash = s.flash := rfl
@[simp] theorem mixRng_ext (a : Word) (s : State) : (mixRng a s).ext = s.ext := rfl
@[simp] theorem mixRng_params (a : Word) (s : State) : (mixRng a s).params = s.params := rfl
@[simp] theorem mixRng_requests (a : Word) (s : State) : (mixRng a s).requests = s.requests := rfl
@[simp] theorem mixRng_response (a : Word) (s : State) : (mixRng a s).response = s.response := rfl
@[simp] theorem mixRng_fetch (a : Word) (s : State) : (mixRng a s).fetch = s.fetch := rfl
@[simp] theorem mixRng_draws (a : Word) (s : State) : (mixRng a s).draws = s.draws + 1 := rfl

/-! ### stall -/

@[simp] theorem stall_icache (s : State) : (stall s).icache = s.icache := rfl
@[simp] theorem stall_fault (s : State) : (stall s).fault = s.fault := rfl
@[simp] theorem stall_ram (s : State) : (stall s).ram = s.ram := rfl
@[simp] theorem stall_initialized (s : State) : (stall s).initialized = s.initialized := rfl
@[simp] theorem stall_memMapAct (s : State) : (stall s).memMapAct = s.memMapAct := rfl
@[simp] theorem stall_memMapRst (s : State) : (stall s).memMapRst = s.memMapRst := rfl
@[simp] theorem stall_memPermAct (s : State) : (stall s).memPermAct = s.memPermAct := rfl
@[simp] theorem stall_memPermRst (s : State) : (stall s).memPermRst = s.memPermRst := rfl
@[simp] theorem stall_pflMap (s : State) : (stall s).pflMap = s.pflMap := rfl
@[simp] theorem stall_pflPerm (s : State) : (stall s).pflPerm = s.pflPerm := rfl
@[simp] theorem stall_bsel (s : State) : (stall s).bsel = s.bsel := rfl
@[simp] theorem stall_featureFlags (s : State) : (stall s).featureFlags = s.featureFlags := rfl
@[simp] theorem stall_jlpAccelOn (s : State) : (stall s).jlpAccelOn = s.jlpAccelOn := rfl
@[simp] theorem stall_ltoIsaEnabled (s : State) : (stall s).ltoIsaEnabled = s.ltoIsaEnabled := rfl
@[simp] theorem stall_uid (s : State) : (stall s).uid = s.uid := rfl
@[simp] theorem stall_jlpReg (s : State) : (stall s).jlpReg = s.jlpReg := rfl
@[simp] theorem stall_jlpCrc (s : State) : (stall s).jlpCrc = s.jlpCrc := rfl
@[simp] theorem stall_jlpSleep (s : State) : (stall s).jlpSleep = s.jlpSleep - 1 := rfl
@[simp] theorem stall_jlpRng (s : State) : (stall s).jlpRng = s.jlpRng := rfl
@[simp] theorem stall_sgAddr (s : State) : (stall s).sgAddr = s.sgAddr := rfl
@[simp] theorem stall_sgRow (s : State) : (stall s).sgRow = s.sgRow := rfl
@[simp] theorem stall_flash (s : State) : (stall s).flash = s.flash := rfl
@[simp] theorem stall_ext (s : State) : (stall s).ext = s.ext := rfl
@[simp] theorem stall_params (s : State) : (stall s).params = s.params := rfl
@[simp] theorem stall_requests (s : State) : (stall s).requests = s.requests := rfl
@[simp] theorem stall_response (s : State) : (stall s).response = s.response := rfl
@[simp] theorem stall_fetch (s : State) : (stall s).fetch = s.fetch := rfl
@[simp] theorem stall_draws (s : State) : (stall s).draws = s.draws := rfl

/-! ### drawSleep -/

@[simp] theorem drawSleep_icache (lo n : Nat) (s : State) : (drawSleep lo n s).icache = s.icache := rfl
@[simp] theorem drawSleep_fault (lo n : Nat) (s : State) : (drawSleep lo n s).fault = s.fault := rfl
@[simp] theorem drawSleep_ram (lo n : Nat) (s : State) : (drawSleep lo n s).ram = s.ram := rfl
@[simp] theorem drawSleep_initialized (lo n : Nat) (s : State) :
    (drawSleep lo n s).initialized = s.initialized := rfl
@[simp] theorem drawSleep_memMapAct (lo n : Nat) (s : State) : (drawSleep lo n s).memMapAct = s.memMapAct := rfl
@[simp] theorem drawSleep_memMapRst (lo n : Nat) (s : State) : (drawSleep lo n s).memMapRst = s.memMapRst := rfl
@[simp] theorem drawSleep_memPermAct (lo n : Nat) (s : State) : (drawSleep lo n s).memPermAct = s.memPermAct := rfl
@[simp] theorem drawSleep_memPermRst (lo n : Nat) (s : State) : (drawSleep lo n s).memPermRst = s.memPermRst := rfl
@[simp] theorem drawSleep_pflMap (lo n : Nat) (s : State) : (drawSleep lo n s).pflMap = s.pflMap := rfl
@[simp] theorem drawSleep_pflPerm (lo n : Nat) (s : State) : (drawSleep lo n s).pflPerm = s.pflPerm := rfl
@[simp] theorem drawSleep_bsel (lo n : Nat) (s : State) : (drawSleep lo n s).bsel = s.bsel := rfl
@[simp] theorem drawSleep_featureFlags (lo n : Nat) (s : State) :
    (drawSleep lo n s).featureFlags = s.featureFlags := rfl
@[simp] theorem drawSleep_jlpAccelOn (lo n : Nat) (s : State) : (drawSleep lo n s).jlpAccelOn = s.jlpAccelOn := rfl
@[simp] theorem drawSleep_ltoIsaEnabled (lo n : Nat) (s : State) :
    (drawSleep lo n s).ltoIsaEnabled = s.ltoIsaEnabled := rfl
@[simp] theorem drawSleep_uid (lo n : Nat) (s : State) : (drawSleep lo n s).uid = s.uid := rfl
@[simp] theorem drawSleep_jlpReg (lo n : Nat) (s : State) : (drawSleep lo n s).jlpReg = s.jlpReg := rfl
@[simp] theorem drawSleep_jlpCrc (lo n : Nat) (s : State) : (drawSleep lo n s).jlpCrc = s.jlpCrc := rfl
@[simp] theorem drawSleep_jlpSleep (lo n : Nat) (s : State) :
    (drawSleep lo n s).jlpSleep = lo + Config.drawNat s.draws % n := rfl
@[simp] theorem drawSleep_jlpRng (lo n : Nat) (s : State) : (drawSleep lo n s).jlpRng = s.jlpRng := rfl
@[simp] theorem drawSleep_sgAddr (lo n : Nat) (s : State) : (drawSleep lo n s).sgAddr = s.sgAddr := rfl
@[simp] theorem drawSleep_sgRow (lo n : Nat) (s : State) : (drawSleep lo n s).sgRow = s.sgRow := rfl
@[simp] theorem drawSleep_flash (lo n : Nat) (s : State) : (drawSleep lo n s).flash = s.flash := rfl
@[simp] theorem drawSleep_ext (lo n : Nat) (s : State) : (drawSleep lo n s).ext = s.ext := rfl
@[simp] theorem drawSleep_params (lo n : Nat) (s : State) : (drawSleep lo n s).params = s.params := rfl
@[simp] theorem drawSleep_requests (lo n : Nat) (s : State) : (drawSleep lo n s).requests = s.requests := rfl
@[simp] theorem drawSleep_response (lo n : Nat) (s : State) : (drawSleep lo n s).response = s.response := rfl
@[simp] theorem drawSleep_fetch (lo n : Nat) (s : State) : (drawSleep lo n s).fetch = s.fetch := rfl
@[simp] theorem drawSleep_draws (lo n : Nat) (s : State) : (drawSleep lo n s).draws = s.draws + 1 := rfl

/-! ### invalidateWritten -/

@[simp] theorem invalidateWritten_icache (a : Word) (s : State) :
    (invalidateWritten a s).icache = tableDrop (writtenCover a) s.icache := rfl
@[simp] theorem invalidateWritten_fault (a : Word) (s : State) : (invalidateWritten a s).fault = s.fault := rfl
@[simp] theorem invalidateWritten_ram (a : Word) (s : State) : (invalidateWritten a s).ram = s.ram := rfl
@[simp] theorem invalidateWritten_initialized (a : Word) (s : State) :
    (invalidateWritten a s).initialized = s.initialized := rfl
@[simp] theorem invalidateWritten_memMapAct (a : Word) (s : State) :
    (invalidateWritten a s).memMapAct = s.memMapAct := rfl
@[simp] theorem invalidateWritten_memMapRst (a : Word) (s : State) :
    (invalidateWritten a s).memMapRst = s.memMapRst := rfl
@[simp] theorem invalidateWritten_memPermAct (a : Word) (s : State) :
    (invalidateWritten a s).memPermAct = s.memPermAct := rfl
@[simp] theorem invalidateWritten_memPermRst (a : Word) (s : State) :
    (invalidateWritten a s).memPermRst = s.memPermRst := rfl
@[simp] theorem invalidateWritten_pflMap (a : Word) (s : State) : (invalidateWritten a s).pflMap = s.pflMap := rfl
@[simp] theorem invalidateWritten_pflPerm (a : Word) (s : State) :
    (invalidateWritten a s).pflPerm = s.pflPerm := rfl
@[simp] theorem invalidateWritten_bsel (a : Word) (s : State) : (invalidateWritten a s).bsel = s.bsel := rfl
@[simp] theorem invalidateWritten_featureFlags (a : Word) (s : State) :
    (invalidateWritten a s).featureFlags = s.featureFlags := rfl
@[simp] theorem invalidateWritten_jlpAccelOn (a : Word) (s : State) :
    (invalidateWritten a s).jlpAccelOn = s.jlpAccelOn := rfl
@[simp] theorem invalidateWritten_ltoIsaEnabled (a : Word) (s : State) :
    (invalidateWritten a s).ltoIsaEnabled = s.ltoIsaEnabled := rfl
@[simp] theorem invalidateWritten_uid (a : Word) (s : State) : (invalidateWritten a s).uid = s.uid := rfl
@[simp] theorem invalidateWritten_jlpReg (a : Word) (s : State) : (invalidateWritten a s).jlpReg = s.jlpReg := rfl
@[simp] theorem invalidateWritten_jlpCrc (a : Word) (s : State) : (invalidateWritten a s).jlpCrc = s.jlpCrc := rfl
@[simp] theorem invalidateWritten_jlpSleep (a : Word) (s : State) :
    (invalidateWritten a s).jlpSleep = s.jlpSleep := rfl
@[simp] theorem invalidateWritten_jlpRng (a : Word) (s : State) : (invalidateWritten a s).jlpRng = s.jlpRng := rfl
@[simp] theorem invalidateWritten_sgAddr (a : Word) (s : State) : (invalidateWritten a s).sgAddr = s.sgAddr := rfl
@[simp] theorem invalidateWritten_sgRow (a : Word) (s : State) : (invalidateWritten a s).sgRow = s.sgRow := rfl
@[simp] theorem invalidateWritten_flash (a : Word) (s : State) : (invalidateWritten a s).flash = s.flash := rfl
@[simp] theorem invalidateWritten_ext (a : Word) (s : State) : (invalidateWritten a s).ext = s.ext := rfl
@[simp] theorem invalidateWritten_params (a : Word) (s : State) : (invalidateWritten a s).params = s.params := rfl
@[simp] theorem invalidateWritten_requests (a : Word) (s : State) :
    (invalidateWritten a s).requests = s.requests := rfl
@[simp] theorem invalidateWritten_response (a : Word) (s : State) :
    (invalidateWritten a s).response = s.response := rfl
@[simp] theorem invalidateWritten_fetch (a : Word) (s : State) : (invalidateWritten a s).fetch = s.fetch := rfl
@[simp] theorem invalidateWritten_draws (a : Word) (s : State) : (invalidateWritten a s).draws = s.draws := rfl

/-! ### invalidateRange -/

@[simp] theorem invalidateRange_icache (lo hi : Word) (s : State) :
    (invalidateRange lo hi s).icache = tableDrop (rangeCover lo hi) s.icache := rfl
@[simp] theorem invalidateRange_fault (lo hi : Word) (s : State) : (invalidateRange lo hi s).fault = s.fault := rfl
@[simp] theorem invalidateRange_ram (lo hi : Word) (s : State) : (invalidateRange lo hi s).ram = s.ram := rfl
@[simp] theorem invalidateRange_initialized (lo hi : Word) (s : State) :
    (invalidateRange lo hi s).initialized = s.initialized := rfl
@[simp] theorem invalidateRange_memMapAct (lo hi : Word) (s : State) :
    (invalidateRange lo hi s).memMapAct = s.memMapAct := rfl
@[simp] theorem invalidateRange_memMapRst (lo hi : Word) (s : State) :
    (invalidateRange lo hi s).memMapRst = s.memMapRst := rfl
@[simp] theorem invalidateRange_memPermAct (lo hi : Word) (s : State) :
    (invalidateRange lo hi s).memPermAct = s.memPermAct := rfl
@[simp] theorem invalidateRange_memPermRst (lo hi : Word) (s : State) :
    (invalidateRange lo hi s).memPermRst = s.memPermRst := rfl
@[simp] theorem invalidateRange_pflMap (lo hi : Word) (s : State) :
    (invalidateRange lo hi s).pflMap = s.pflMap := rfl
@[simp] theorem invalidateRange_pflPerm (lo hi : Word) (s : State) :
    (invalidateRange lo hi s).pflPerm = s.pflPerm := rfl
@[simp] theorem invalidateRange_bsel (lo hi : Word) (s : State) : (invalidateRange lo hi s).bsel = s.bsel := rfl
@[simp] theorem invalidateRange_featureFlags (lo hi : Word) (s : State) :
    (invalidateRange lo hi s).featureFlags = s.featureFlags := rfl
@[simp] theorem invalidateRange_jlpAccelOn (lo hi : Word) (s : State) :
    (invalidateRange lo hi s).jlpAccelOn = s.jlpAccelOn := rfl
@[simp] theorem invalidateRange_ltoIsaEnabled (lo hi : Word) (s : State) :
    (invalidateRange lo hi s).ltoIsaEnabled = s.ltoIsaEnabled := rfl
@[simp] theorem invalidateRange_uid (lo hi : Word) (s : State) : (invalidateRange lo hi s).uid = s.uid := rfl
@[simp] theorem invalidateRange_jlpReg (lo hi : Word) (s : State) :
    (invalidateRange lo hi s).jlpReg = s.jlpReg := rfl
@[simp] theorem invalidateRange_jlpCrc (lo hi : Word) (s : State) :
    (invalidateRange lo hi s).jlpCrc = s.jlpCrc := rfl
@[simp] theorem invalidateRange_jlpSleep (lo hi : Word) (s : State) :
    (invalidateRange lo hi s).jlpSleep = s.jlpSleep := rfl
@[simp] theorem invalidateRange_jlpRng (lo hi : Word) (s : State) :
    (invalidateRange lo hi s).jlpRng = s.jlpRng := rfl
@[simp] theorem invalidateRange_sgAddr (lo hi : Word) (s : State) :
    (invalidateRange lo hi s).sgAddr = s.sgAddr := rfl
@[simp] theorem invalidateRange_sgRow (lo hi : Word) (s : State) : (invalidateRange lo hi s).sgRow = s.sgRow := rfl
@[simp] theorem invalidateRange_flash (lo hi : Word) (s : State) : (invalidateRange lo hi s).flash = s.flash := rfl
@[simp] theorem invalidateRange_ext (lo hi : Word) (s : State) : (invalidateRange lo hi s).ext = s.ext := rfl
@[simp] theorem invalidateRange_params (lo hi : Word) (s : State) :
    (invalidateRange lo hi s).params = s.params := rfl
@[simp] theorem invalidateRange_requests (lo hi : Word) (s : State) :
    (invalidateRange lo hi s).requests = s.requests := rfl
@[simp] theorem invalidateRange_response (lo hi : Word) (s : State) :
    (invalidateRange lo hi s).response = s.response := rfl
@[simp] theorem invalidateRange_fetch (lo hi : Word) (s : State) : (invalidateRange lo hi s).fetch = s.fetch := rfl
@[simp] theorem invalidateRange_draws (lo hi : Word) (s : State) : (invalidateRange lo hi s).draws = s.draws := rfl

/-! ### commitRecord -/

@[simp] theorem commitRecord_icache (r : DecodedRecord) (s : State) :
    (commitRecord r s).icache = tableSet none s.icache r.addr.toNat (some r) := rfl
@[simp] theorem commitRecord_fault (r : DecodedRecord) (s : State) : (commitRecord r s).fault = s.fault := rfl
@[simp] theorem commitRecord_ram (r : DecodedRecord) (s : State) : (commitRecord r s).ram = s.ram := rfl
@[simp] theorem commitRecord_initialized (r : DecodedRecord) (s : State) :
    (commitRecord r s).initialized = s.initialized := rfl
@[simp] theorem commitRecord_memMapAct (r : DecodedRecord) (s : State) :
    (commitRecord r s).memMapAct = s.memMapAct := rfl
@[simp] theorem commitRecord_memMapRst (r : DecodedRecord) (s : State) :
    (commitRecord r s).memMapRst = s.memMapRst := rfl
@[simp] theorem commitRecord_memPermAct (r : DecodedRecord) (s : State) :
    (commitRecord r s).memPermAct = s.memPermAct := rfl
@[simp] theorem commitRecord_memPermRst (r : DecodedRecord) (s : State) :
    (commitRecord r s).memPermRst = s.memPermRst := rfl
@[simp] theorem commitRecord_pflMap (r : DecodedRecord) (s : State) : (commitRecord r s).pflMap = s.pflMap := rfl
@[simp] theorem commitRecord_pflPerm (r : DecodedRecord) (s : State) :
    (commitRecord r s).pflPerm = s.pflPerm := rfl
@[simp] theorem commitRecord_bsel (r : DecodedRecord) (s : State) : (commitRecord r s).bsel = s.bsel := rfl
@[simp] theorem commitRecord_featureFlags (r : DecodedRecord) (s : State) :
    (commitRecord r s).featureFlags = s.featureFlags := rfl
@[simp] theorem commitRecord_jlpAccelOn (r : DecodedRecord) (s : State) :
    (commitRecord r s).jlpAccelOn = s.jlpAccelOn := rfl
@[simp] theorem commitRecord_ltoIsaEnabled (r : DecodedRecord) (s : State) :
    (commitRecord r s).ltoIsaEnabled = s.ltoIsaEnabled := rfl
@[simp] theorem commitRecord_uid (r : DecodedRecord) (s : State) : (commitRecord r s).uid = s.uid := rfl
@[simp] theorem commitRecord_jlpReg (r : DecodedRecord) (s : State) : (commitRecord r s).jlpReg = s.jlpReg := rfl
@[simp] theorem commitRecord_jlpCrc (r : DecodedRecord) (s : State) : (commitRecord r s).jlpCrc = s.jlpCrc := rfl
@[simp] theorem commitRecord_jlpSleep (r : DecodedRecord) (s : State) :
    (commitRecord r s).jlpSleep = s.jlpSleep := rfl
@[simp] theorem commitRecord_jlpRng (r : DecodedRecord) (s : State) : (commitRecord r s).jlpRng = s.jlpRng := rfl
@[simp] theorem commitRecord_sgAddr (r : DecodedRecord) (s : State) : (commitRecord r s).sgAddr = s.sgAddr := rfl
@[simp] theorem commitRecord_sgRow (r : DecodedRecord) (s : State) : (commitRecord r s).sgRow = s.sgRow := rfl
@[simp] theorem commitRecord_flash (r : DecodedRecord) (s : State) : (commitRecord r s).flash = s.flash := rfl
@[simp] theorem commitRecord_ext (r : DecodedRecord) (s : State) : (commitRecord r s).ext = s.ext := rfl
@[simp] theorem commitRecord_params (r : DecodedRecord) (s : State) : (commitRecord r s).params = s.params := rfl
@[simp] theorem commitRecord_requests (r : DecodedRecord) (s : State) :
    (commitRecord r s).requests = s.requests := rfl
@[simp] theorem commitRecord_response (r : DecodedRecord) (s : State) :
    (commitRecord r s).response = .record r := rfl
@[simp] theorem commitRecord_fetch (r : DecodedRecord) (s : State) : (commitRecord r s).fetch = Fetch.idle := rfl
@[simp] theorem commitRecord_draws (r : DecodedRecord) (s : State) : (commitRecord r s).draws = s.draws := rfl

/-! ### setJlpRegister -/

@[simp] theorem setJlpRegister_icache (i : BitVec 4) (v : Word) (s : State) :
    (setJlpRegister i v s).icache = s.icache := rfl
@[simp] theorem setJlpRegister_fault (i : BitVec 4) (v : Word) (s : State) :
    (setJlpRegister i v s).fault = s.fault := rfl
@[simp] theorem setJlpRegister_ram (i : BitVec 4) (v : Word) (s : State) :
    (setJlpRegister i v s).ram = s.ram := rfl
@[simp] theorem setJlpRegister_initialized (i : BitVec 4) (v : Word) (s : State) :
    (setJlpRegister i v s).initialized = s.initialized := rfl
@[simp] theorem setJlpRegister_memMapAct (i : BitVec 4) (v : Word) (s : State) :
    (setJlpRegister i v s).memMapAct = s.memMapAct := rfl
@[simp] theorem setJlpRegister_memMapRst (i : BitVec 4) (v : Word) (s : State) :
    (setJlpRegister i v s).memMapRst = s.memMapRst := rfl
@[simp] theorem setJlpRegister_memPermAct (i : BitVec 4) (v : Word) (s : State) :
    (setJlpRegister i v s).memPermAct = s.memPermAct := rfl
@[simp] theorem setJlpRegister_memPermRst (i : BitVec 4) (v : Word) (s : State) :
    (setJlpRegister i v s).memPermRst = s.memPermRst := rfl
@[simp] theorem setJlpRegister_pflMap (i : BitVec 4) (v : Word) (s : State) :
    (setJlpRegister i v s).pflMap = s.pflMap := rfl
@[simp] theorem setJlpRegister_pflPerm (i : BitVec 4) (v : Word) (s : State) :
    (setJlpRegister i v s).pflPerm = s.pflPerm := rfl
@[simp] theorem setJlpRegister_bsel (i : BitVec 4) (v : Word) (s : State) :
    (setJlpRegister i v s).bsel = s.bsel := rfl
@[simp] theorem setJlpRegister_featureFlags (i : BitVec 4) (v : Word) (s : State) :
    (setJlpRegister i v s).featureFlags = s.featureFlags := rfl
@[simp] theorem setJlpRegister_jlpAccelOn (i : BitVec 4) (v : Word) (s : State) :
    (setJlpRegister i v s).jlpAccelOn = s.jlpAccelOn := rfl
@[simp] theorem setJlpRegister_ltoIsaEnabled (i : BitVec 4) (v : Word) (s : State) :
    (setJlpRegister i v s).ltoIsaEnabled = s.ltoIsaEnabled := rfl
@[simp] theorem setJlpRegister_uid (i : BitVec 4) (v : Word) (s : State) :
    (setJlpRegister i v s).uid = s.uid := rfl
@[simp] theorem setJlpRegister_jlpReg (i : BitVec 4) (v : Word) (s : State) :
    (setJlpRegister i v s).jlpReg = vecSet s.jlpReg i v := rfl
@[simp] theorem setJlpRegister_jlpCrc (i : BitVec 4) (v : Word) (s : State) :
    (setJlpRegister i v s).jlpCrc = s.jlpCrc := rfl
@[simp] theorem setJlpRegister_jlpSleep (i : BitVec 4) (v : Word) (s : State) :
    (setJlpRegister i v s).jlpSleep = s.jlpSleep := rfl
@[simp] theorem setJlpRegister_jlpRng (i : BitVec 4) (v : Word) (s : State) :
    (setJlpRegister i v s).jlpRng = s.jlpRng := rfl
@[simp] theorem setJlpRegister_sgAddr (i : BitVec 4) (v : Word) (s : State) :
    (setJlpRegister i v s).sgAddr = s.sgAddr := rfl
@[simp] theorem setJlpRegister_sgRow (i : BitVec 4) (v : Word) (s : State) :
    (setJlpRegister i v s).sgRow = s.sgRow := rfl
@[simp] theorem setJlpRegister_flash (i : BitVec 4) (v : Word) (s : State) :
    (setJlpRegister i v s).flash = s.flash := rfl
@[simp] theorem setJlpRegister_ext (i : BitVec 4) (v : Word) (s : State) :
    (setJlpRegister i v s).ext = s.ext := rfl
@[simp] theorem setJlpRegister_params (i : BitVec 4) (v : Word) (s : State) :
    (setJlpRegister i v s).params = s.params := rfl
@[simp] theorem setJlpRegister_requests (i : BitVec 4) (v : Word) (s : State) :
    (setJlpRegister i v s).requests = s.requests := rfl
@[simp] theorem setJlpRegister_response (i : BitVec 4) (v : Word) (s : State) :
    (setJlpRegister i v s).response = s.response := rfl
@[simp] theorem setJlpRegister_fetch (i : BitVec 4) (v : Word) (s : State) :
    (setJlpRegister i v s).fetch = s.fetch := rfl
@[simp] theorem setJlpRegister_draws (i : BitVec 4) (v : Word) (s : State) :
    (setJlpRegister i v s).draws = s.draws := rfl

/-! ### setFlashByte -/

@[simp] theorem setFlashByte_icache (k : Nat) (b : Byte) (s : State) :
    (setFlashByte k b s).icache = s.icache := rfl
@[simp] theorem setFlashByte_fault (k : Nat) (b : Byte) (s : State) : (setFlashByte k b s).fault = s.fault := rfl
@[simp] theorem setFlashByte_ram (k : Nat) (b : Byte) (s : State) : (setFlashByte k b s).ram = s.ram := rfl
@[simp] theorem setFlashByte_initialized (k : Nat) (b : Byte) (s : State) :
    (setFlashByte k b s).initialized = s.initialized := rfl
@[simp] theorem setFlashByte_memMapAct (k : Nat) (b : Byte) (s : State) :
    (setFlashByte k b s).memMapAct = s.memMapAct := rfl
@[simp] theorem setFlashByte_memMapRst (k : Nat) (b : Byte) (s : State) :
    (setFlashByte k b s).memMapRst = s.memMapRst := rfl
@[simp] theorem setFlashByte_memPermAct (k : Nat) (b : Byte) (s : State) :
    (setFlashByte k b s).memPermAct = s.memPermAct := rfl
@[simp] theorem setFlashByte_memPermRst (k : Nat) (b : Byte) (s : State) :
    (setFlashByte k b s).memPermRst = s.memPermRst := rfl
@[simp] theorem setFlashByte_pflMap (k : Nat) (b : Byte) (s : State) :
    (setFlashByte k b s).pflMap = s.pflMap := rfl
@[simp] theorem setFlashByte_pflPerm (k : Nat) (b : Byte) (s : State) :
    (setFlashByte k b s).pflPerm = s.pflPerm := rfl
@[simp] theorem setFlashByte_bsel (k : Nat) (b : Byte) (s : State) : (setFlashByte k b s).bsel = s.bsel := rfl
@[simp] theorem setFlashByte_featureFlags (k : Nat) (b : Byte) (s : State) :
    (setFlashByte k b s).featureFlags = s.featureFlags := rfl
@[simp] theorem setFlashByte_jlpAccelOn (k : Nat) (b : Byte) (s : State) :
    (setFlashByte k b s).jlpAccelOn = s.jlpAccelOn := rfl
@[simp] theorem setFlashByte_ltoIsaEnabled (k : Nat) (b : Byte) (s : State) :
    (setFlashByte k b s).ltoIsaEnabled = s.ltoIsaEnabled := rfl
@[simp] theorem setFlashByte_uid (k : Nat) (b : Byte) (s : State) : (setFlashByte k b s).uid = s.uid := rfl
@[simp] theorem setFlashByte_jlpReg (k : Nat) (b : Byte) (s : State) :
    (setFlashByte k b s).jlpReg = s.jlpReg := rfl
@[simp] theorem setFlashByte_jlpCrc (k : Nat) (b : Byte) (s : State) :
    (setFlashByte k b s).jlpCrc = s.jlpCrc := rfl
@[simp] theorem setFlashByte_jlpSleep (k : Nat) (b : Byte) (s : State) :
    (setFlashByte k b s).jlpSleep = s.jlpSleep := rfl
@[simp] theorem setFlashByte_jlpRng (k : Nat) (b : Byte) (s : State) :
    (setFlashByte k b s).jlpRng = s.jlpRng := rfl
@[simp] theorem setFlashByte_sgAddr (k : Nat) (b : Byte) (s : State) :
    (setFlashByte k b s).sgAddr = s.sgAddr := rfl
@[simp] theorem setFlashByte_sgRow (k : Nat) (b : Byte) (s : State) : (setFlashByte k b s).sgRow = s.sgRow := rfl
@[simp] theorem setFlashByte_flash (k : Nat) (b : Byte) (s : State) :
    (setFlashByte k b s).flash = tableSet flashDefault s.flash k b := rfl
@[simp] theorem setFlashByte_ext (k : Nat) (b : Byte) (s : State) : (setFlashByte k b s).ext = s.ext := rfl
@[simp] theorem setFlashByte_params (k : Nat) (b : Byte) (s : State) :
    (setFlashByte k b s).params = s.params := rfl
@[simp] theorem setFlashByte_requests (k : Nat) (b : Byte) (s : State) :
    (setFlashByte k b s).requests = s.requests := rfl
@[simp] theorem setFlashByte_response (k : Nat) (b : Byte) (s : State) :
    (setFlashByte k b s).response = s.response := rfl
@[simp] theorem setFlashByte_fetch (k : Nat) (b : Byte) (s : State) : (setFlashByte k b s).fetch = s.fetch := rfl
@[simp] theorem setFlashByte_draws (k : Nat) (b : Byte) (s : State) : (setFlashByte k b s).draws = s.draws := rfl

/-! ### setSgAddr -/

@[simp] theorem setSgAddr_icache (v : Word) (s : State) : (setSgAddr v s).icache = s.icache := rfl
@[simp] theorem setSgAddr_fault (v : Word) (s : State) : (setSgAddr v s).fault = s.fault := rfl
@[simp] theorem setSgAddr_ram (v : Word) (s : State) : (setSgAddr v s).ram = s.ram := rfl
@[simp] theorem setSgAddr_initialized (v : Word) (s : State) : (setSgAddr v s).initialized = s.initialized := rfl
@[simp] theorem setSgAddr_memMapAct (v : Word) (s : State) : (setSgAddr v s).memMapAct = s.memMapAct := rfl
@[simp] theorem setSgAddr_memMapRst (v : Word) (s : State) : (setSgAddr v s).memMapRst = s.memMapRst := rfl
@[simp] theorem setSgAddr_memPermAct (v : Word) (s : State) : (setSgAddr v s).memPermAct = s.memPermAct := rfl
@[simp] theorem setSgAddr_memPermRst (v : Word) (s : State) : (setSgAddr v s).memPermRst = s.memPermRst := rfl
@[simp] theorem setSgAddr_pflMap (v : Word) (s : State) : (setSgAddr v s).pflMap = s.pflMap := rfl
@[simp] theorem setSgAddr_pflPerm (v : Word) (s : State) : (setSgAddr v s).pflPerm = s.pflPerm := rfl
@[simp] theorem setSgAddr_bsel (v : Word) (s : State) : (setSgAddr v s).bsel = s.bsel := rfl
@[simp] theorem setSgAddr_featureFlags (v : Word) (s : State) :
    (setSgAddr v s).featureFlags = s.featureFlags := rfl
@[simp] theorem setSgAddr_jlpAccelOn (v : Word) (s : State) : (setSgAddr v s).jlpAccelOn = s.jlpAccelOn := rfl
@[simp] theorem setSgAddr_ltoIsaEnabled (v : Word) (s : State) :
    (setSgAddr v s).ltoIsaEnabled = s.ltoIsaEnabled := rfl
@[simp] theorem setSgAddr_uid (v : Word) (s : State) : (setSgAddr v s).uid = s.uid := rfl
@[simp] theorem setSgAddr_jlpReg (v : Word) (s : State) : (setSgAddr v s).jlpReg = s.jlpReg := rfl
@[simp] theorem setSgAddr_jlpCrc (v : Word) (s : State) : (setSgAddr v s).jlpCrc = s.jlpCrc := rfl
@[simp] theorem setSgAddr_jlpSleep (v : Word) (s : State) : (setSgAddr v s).jlpSleep = s.jlpSleep := rfl
@[simp] theorem setSgAddr_jlpRng (v : Word) (s : State) : (setSgAddr v s).jlpRng = s.jlpRng := rfl
@[simp] theorem setSgAddr_sgAddr (v : Word) (s : State) : (setSgAddr v s).sgAddr = v := rfl
@[simp] theorem setSgAddr_sgRow (v : Word) (s : State) : (setSgAddr v s).sgRow = s.sgRow := rfl
@[simp] theorem setSgAddr_flash (v : Word) (s : State) : (setSgAddr v s).flash = s.flash := rfl
@[simp] theorem setSgAddr_ext (v : Word) (s : State) : (setSgAddr v s).ext = s.ext := rfl
@[simp] theorem setSgAddr_params (v : Word) (s : State) : (setSgAddr v s).params = s.params := rfl
@[simp] theorem setSgAddr_requests (v : Word) (s : State) : (setSgAddr v s).requests = s.requests := rfl
@[simp] theorem setSgAddr_response (v : Word) (s : State) : (setSgAddr v s).response = s.response := rfl
@[simp] theorem setSgAddr_fetch (v : Word) (s : State) : (setSgAddr v s).fetch = s.fetch := rfl
@[simp] theorem setSgAddr_draws (v : Word) (s : State) : (setSgAddr v s).draws = s.draws := rfl

/-! ### setSgRow -/

@[simp] theorem setSgRow_icache (v : Word) (s : State) : (setSgRow v s).icache = s.icache := rfl
@[simp] theorem setSgRow_fault (v : Word) (s : State) : (setSgRow v s).fault = s.fault := rfl
@[simp] theorem setSgRow_ram (v : Word) (s : State) : (setSgRow v s).ram = s.ram := rfl
@[simp] theorem setSgRow_initialized (v : Word) (s : State) : (setSgRow v s).initialized = s.initialized := rfl
@[simp] theorem setSgRow_memMapAct (v : Word) (s : State) : (setSgRow v s).memMapAct = s.memMapAct := rfl
@[simp] theorem setSgRow_memMapRst (v : Word) (s : State) : (setSgRow v s).memMapRst = s.memMapRst := rfl
@[simp] theorem setSgRow_memPermAct (v : Word) (s : State) : (setSgRow v s).memPermAct = s.memPermAct := rfl
@[simp] theorem setSgRow_memPermRst (v : Word) (s : State) : (setSgRow v s).memPermRst = s.memPermRst := rfl
@[simp] theorem setSgRow_pflMap (v : Word) (s : State) : (setSgRow v s).pflMap = s.pflMap := rfl
@[simp] theorem setSgRow_pflPerm (v : Word) (s : State) : (setSgRow v s).pflPerm = s.pflPerm := rfl
@[simp] theorem setSgRow_bsel (v : Word) (s : State) : (setSgRow v s).bsel = s.bsel := rfl
@[simp] theorem setSgRow_featureFlags (v : Word) (s : State) : (setSgRow v s).featureFlags = s.featureFlags := rfl
@[simp] theorem setSgRow_jlpAccelOn (v : Word) (s : State) : (setSgRow v s).jlpAccelOn = s.jlpAccelOn := rfl
@[simp] theorem setSgRow_ltoIsaEnabled (v : Word) (s : State) :
    (setSgRow v s).ltoIsaEnabled = s.ltoIsaEnabled := rfl
@[simp] theorem setSgRow_uid (v : Word) (s : State) : (setSgRow v s).uid = s.uid := rfl
@[simp] theorem setSgRow_jlpReg (v : Word) (s : State) : (setSgRow v s).jlpReg = s.jlpReg := rfl
@[simp] theorem setSgRow_jlpCrc (v : Word) (s : State) : (setSgRow v s).jlpCrc = s.jlpCrc := rfl
@[simp] theorem setSgRow_jlpSleep (v : Word) (s : State) : (setSgRow v s).jlpSleep = s.jlpSleep := rfl
@[simp] theorem setSgRow_jlpRng (v : Word) (s : State) : (setSgRow v s).jlpRng = s.jlpRng := rfl
@[simp] theorem setSgRow_sgAddr (v : Word) (s : State) : (setSgRow v s).sgAddr = s.sgAddr := rfl
@[simp] theorem setSgRow_sgRow (v : Word) (s : State) : (setSgRow v s).sgRow = v := rfl
@[simp] theorem setSgRow_flash (v : Word) (s : State) : (setSgRow v s).flash = s.flash := rfl
@[simp] theorem setSgRow_ext (v : Word) (s : State) : (setSgRow v s).ext = s.ext := rfl
@[simp] theorem setSgRow_params (v : Word) (s : State) : (setSgRow v s).params = s.params := rfl
@[simp] theorem setSgRow_requests (v : Word) (s : State) : (setSgRow v s).requests = s.requests := rfl
@[simp] theorem setSgRow_response (v : Word) (s : State) : (setSgRow v s).response = s.response := rfl
@[simp] theorem setSgRow_fetch (v : Word) (s : State) : (setSgRow v s).fetch = s.fetch := rfl
@[simp] theorem setSgRow_draws (v : Word) (s : State) : (setSgRow v s).draws = s.draws := rfl

/-! ### setJlpCrc -/

@[simp] theorem setJlpCrc_icache (c : Word) (s : State) : (setJlpCrc c s).icache = s.icache := rfl
@[simp] theorem setJlpCrc_fault (c : Word) (s : State) : (setJlpCrc c s).fault = s.fault := rfl
@[simp] theorem setJlpCrc_ram (c : Word) (s : State) : (setJlpCrc c s).ram = s.ram := rfl
@[simp] theorem setJlpCrc_initialized (c : Word) (s : State) : (setJlpCrc c s).initialized = s.initialized := rfl
@[simp] theorem setJlpCrc_memMapAct (c : Word) (s : State) : (setJlpCrc c s).memMapAct = s.memMapAct := rfl
@[simp] theorem setJlpCrc_memMapRst (c : Word) (s : State) : (setJlpCrc c s).memMapRst = s.memMapRst := rfl
@[simp] theorem setJlpCrc_memPermAct (c : Word) (s : State) : (setJlpCrc c s).memPermAct = s.memPermAct := rfl
@[simp] theorem setJlpCrc_memPermRst (c : Word) (s : State) : (setJlpCrc c s).memPermRst = s.memPermRst := rfl
@[simp] theorem setJlpCrc_pflMap (c : Word) (s : State) : (setJlpCrc c s).pflMap = s.pflMap := rfl
@[simp] theorem setJlpCrc_pflPerm (c : Word) (s : State) : (setJlpCrc c s).pflPerm = s.pflPerm := rfl
@[simp] theorem setJlpCrc_bsel (c : Word) (s : State) : (setJlpCrc c s).bsel = s.bsel := rfl
@[simp] theorem setJlpCrc_featureFlags (c : Word) (s : State) :
    (setJlpCrc c s).featureFlags = s.featureFlags := rfl
@[simp] theorem setJlpCrc_jlpAccelOn (c : Word) (s : State) : (setJlpCrc c s).jlpAccelOn = s.jlpAccelOn := rfl
@[simp] theorem setJlpCrc_ltoIsaEnabled (c : Word) (s : State) :
    (setJlpCrc c s).ltoIsaEnabled = s.ltoIsaEnabled := rfl
@[simp] theorem setJlpCrc_uid (c : Word) (s : State) : (setJlpCrc c s).uid = s.uid := rfl
@[simp] theorem setJlpCrc_jlpReg (c : Word) (s : State) : (setJlpCrc c s).jlpReg = s.jlpReg := rfl
@[simp] theorem setJlpCrc_jlpCrc (c : Word) (s : State) : (setJlpCrc c s).jlpCrc = c := rfl
@[simp] theorem setJlpCrc_jlpSleep (c : Word) (s : State) : (setJlpCrc c s).jlpSleep = s.jlpSleep := rfl
@[simp] theorem setJlpCrc_jlpRng (c : Word) (s : State) : (setJlpCrc c s).jlpRng = s.jlpRng := rfl
@[simp] theorem setJlpCrc_sgAddr (c : Word) (s : State) : (setJlpCrc c s).sgAddr = s.sgAddr := rfl
@[simp] theorem setJlpCrc_sgRow (c : Word) (s : State) : (setJlpCrc c s).sgRow = s.sgRow := rfl
@[simp] theorem setJlpCrc_flash (c : Word) (s : State) : (setJlpCrc c s).flash = s.flash := rfl
@[simp] theorem setJlpCrc_ext (c : Word) (s : State) : (setJlpCrc c s).ext = s.ext := rfl
@[simp] theorem setJlpCrc_params (c : Word) (s : State) : (setJlpCrc c s).params = s.params := rfl
@[simp] theorem setJlpCrc_requests (c : Word) (s : State) : (setJlpCrc c s).requests = s.requests := rfl
@[simp] theorem setJlpCrc_response (c : Word) (s : State) : (setJlpCrc c s).response = s.response := rfl
@[simp] theorem setJlpCrc_fetch (c : Word) (s : State) : (setJlpCrc c s).fetch = s.fetch := rfl
@[simp] theorem setJlpCrc_draws (c : Word) (s : State) : (setJlpCrc c s).draws = s.draws := rfl

/-! ### setExt -/

@[simp] theorem setExt_icache (i : BitVec 4) (v : Word) (s : State) : (setExt i v s).icache = s.icache := rfl
@[simp] theorem setExt_fault (i : BitVec 4) (v : Word) (s : State) : (setExt i v s).fault = s.fault := rfl
@[simp] theorem setExt_ram (i : BitVec 4) (v : Word) (s : State) : (setExt i v s).ram = s.ram := rfl
@[simp] theorem setExt_initialized (i : BitVec 4) (v : Word) (s : State) :
    (setExt i v s).initialized = s.initialized := rfl
@[simp] theorem setExt_memMapAct (i : BitVec 4) (v : Word) (s : State) :
    (setExt i v s).memMapAct = s.memMapAct := rfl
@[simp] theorem setExt_memMapRst (i : BitVec 4) (v : Word) (s : State) :
    (setExt i v s).memMapRst = s.memMapRst := rfl
@[simp] theorem setExt_memPermAct (i : BitVec 4) (v : Word) (s : State) :
    (setExt i v s).memPermAct = s.memPermAct := rfl
@[simp] theorem setExt_memPermRst (i : BitVec 4) (v : Word) (s : State) :
    (setExt i v s).memPermRst = s.memPermRst := rfl
@[simp] theorem setExt_pflMap (i : BitVec 4) (v : Word) (s : State) : (setExt i v s).pflMap = s.pflMap := rfl
@[simp] theorem setExt_pflPerm (i : BitVec 4) (v : Word) (s : State) : (setExt i v s).pflPerm = s.pflPerm := rfl
@[simp] theorem setExt_bsel (i : BitVec 4) (v : Word) (s : State) : (setExt i v s).bsel = s.bsel := rfl
@[simp] theorem setExt_featureFlags (i : BitVec 4) (v : Word) (s : State) :
    (setExt i v s).featureFlags = s.featureFlags := rfl
@[simp] theorem setExt_jlpAccelOn (i : BitVec 4) (v : Word) (s : State) :
    (setExt i v s).jlpAccelOn = s.jlpAccelOn := rfl
@[simp] theorem setExt_ltoIsaEnabled (i : BitVec 4) (v : Word) (s : State) :
    (setExt i v s).ltoIsaEnabled = s.ltoIsaEnabled := rfl
@[simp] theorem setExt_uid (i : BitVec 4) (v : Word) (s : State) : (setExt i v s).uid = s.uid := rfl
@[simp] theorem setExt_jlpReg (i : BitVec 4) (v : Word) (s : State) : (setExt i v s).jlpReg = s.jlpReg := rfl
@[simp] theorem setExt_jlpCrc (i : BitVec 4) (v : Word) (s : State) : (setExt i v s).jlpCrc = s.jlpCrc := rfl
@[simp] theorem setExt_jlpSleep (i : BitVec 4) (v : Word) (s : State) : (setExt i v s).jlpSleep = s.jlpSleep := rfl
@[simp] theorem setExt_jlpRng (i : BitVec 4) (v : Word) (s : State) : (setExt i v s).jlpRng = s.jlpRng := rfl
@[simp] theorem setExt_sgAddr (i : BitVec 4) (v : Word) (s : State) : (setExt i v s).sgAddr = s.sgAddr := rfl
@[simp] theorem setExt_sgRow (i : BitVec 4) (v : Word) (s : State) : (setExt i v s).sgRow = s.sgRow := rfl
@[simp] theorem setExt_flash (i : BitVec 4) (v : Word) (s : State) : (setExt i v s).flash = s.flash := rfl
@[simp] theorem setExt_ext (i : BitVec 4) (v : Word) (s : State) : (setExt i v s).ext = vecSet s.ext i v := rfl
@[simp] theorem setExt_params (i : BitVec 4) (v : Word) (s : State) : (setExt i v s).params = s.params := rfl
@[simp] theorem setExt_requests (i : BitVec 4) (v : Word) (s : State) : (setExt i v s).requests = s.requests := rfl
@[simp] theorem setExt_response (i : BitVec 4) (v : Word) (s : State) : (setExt i v s).response = s.response := rfl
@[simp] theorem setExt_fetch (i : BitVec 4) (v : Word) (s : State) : (setExt i v s).fetch = s.fetch := rfl
@[simp] theorem setExt_draws (i : BitVec 4) (v : Word) (s : State) : (setExt i v s).draws = s.draws := rfl

/-! ### eraseSector -/

@[simp] theorem eraseSector_icache (n : Nat) (s : State) : (eraseSector n s).icache = s.icache := rfl
@[simp] theorem eraseSector_fault (n : Nat) (s : State) : (eraseSector n s).fault = s.fault := rfl
@[simp] theorem eraseSector_ram (n : Nat) (s : State) : (eraseSector n s).ram = s.ram := rfl
@[simp] theorem eraseSector_initialized (n : Nat) (s : State) :
    (eraseSector n s).initialized = s.initialized := rfl
@[simp] theorem eraseSector_memMapAct (n : Nat) (s : State) : (eraseSector n s).memMapAct = s.memMapAct := rfl
@[simp] theorem eraseSector_memMapRst (n : Nat) (s : State) : (eraseSector n s).memMapRst = s.memMapRst := rfl
@[simp] theorem eraseSector_memPermAct (n : Nat) (s : State) : (eraseSector n s).memPermAct = s.memPermAct := rfl
@[simp] theorem eraseSector_memPermRst (n : Nat) (s : State) : (eraseSector n s).memPermRst = s.memPermRst := rfl
@[simp] theorem eraseSector_pflMap (n : Nat) (s : State) : (eraseSector n s).pflMap = s.pflMap := rfl
@[simp] theorem eraseSector_pflPerm (n : Nat) (s : State) : (eraseSector n s).pflPerm = s.pflPerm := rfl
@[simp] theorem eraseSector_bsel (n : Nat) (s : State) : (eraseSector n s).bsel = s.bsel := rfl
@[simp] theorem eraseSector_featureFlags (n : Nat) (s : State) :
    (eraseSector n s).featureFlags = s.featureFlags := rfl
@[simp] theorem eraseSector_jlpAccelOn (n : Nat) (s : State) : (eraseSector n s).jlpAccelOn = s.jlpAccelOn := rfl
@[simp] theorem eraseSector_ltoIsaEnabled (n : Nat) (s : State) :
    (eraseSector n s).ltoIsaEnabled = s.ltoIsaEnabled := rfl
@[simp] theorem eraseSector_uid (n : Nat) (s : State) : (eraseSector n s).uid = s.uid := rfl
@[simp] theorem eraseSector_jlpReg (n : Nat) (s : State) : (eraseSector n s).jlpReg = s.jlpReg := rfl
@[simp] theorem eraseSector_jlpCrc (n : Nat) (s : State) : (eraseSector n s).jlpCrc = s.jlpCrc := rfl
@[simp] theorem eraseSector_jlpSleep (n : Nat) (s : State) : (eraseSector n s).jlpSleep = s.jlpSleep := rfl
@[simp] theorem eraseSector_jlpRng (n : Nat) (s : State) : (eraseSector n s).jlpRng = s.jlpRng := rfl
@[simp] theorem eraseSector_sgAddr (n : Nat) (s : State) : (eraseSector n s).sgAddr = s.sgAddr := rfl
@[simp] theorem eraseSector_sgRow (n : Nat) (s : State) : (eraseSector n s).sgRow = s.sgRow := rfl
@[simp] theorem eraseSector_flash (n : Nat) (s : State) :
    (eraseSector n s).flash = tableDrop (eraseCover s.params n s.sgRow) s.flash := rfl
@[simp] theorem eraseSector_ext (n : Nat) (s : State) : (eraseSector n s).ext = s.ext := rfl
@[simp] theorem eraseSector_params (n : Nat) (s : State) : (eraseSector n s).params = s.params := rfl
@[simp] theorem eraseSector_requests (n : Nat) (s : State) : (eraseSector n s).requests = s.requests := rfl
@[simp] theorem eraseSector_response (n : Nat) (s : State) : (eraseSector n s).response = s.response := rfl
@[simp] theorem eraseSector_fetch (n : Nat) (s : State) : (eraseSector n s).fetch = s.fetch := rfl
@[simp] theorem eraseSector_draws (n : Nat) (s : State) : (eraseSector n s).draws = s.draws := rfl

/-! ### installPage -/

@[simp] theorem installPage_icache (c g f : BitVec 4) (s : State) : (installPage c g f s).icache = s.icache := rfl
@[simp] theorem installPage_fault (c g f : BitVec 4) (s : State) : (installPage c g f s).fault = s.fault := rfl
@[simp] theorem installPage_ram (c g f : BitVec 4) (s : State) : (installPage c g f s).ram = s.ram := rfl
@[simp] theorem installPage_initialized (c g f : BitVec 4) (s : State) :
    (installPage c g f s).initialized = s.initialized := rfl
@[simp] theorem installPage_memMapAct (c g f : BitVec 4) (s : State) :
    (installPage c g f s).memMapAct =
      vecFill s.memMapAct (chapterParagraph c f) (16 - f.toNat) fun i => pageMap s c g (f.toNat + i) := rfl
@[simp] theorem installPage_memMapRst (c g f : BitVec 4) (s : State) :
    (installPage c g f s).memMapRst = s.memMapRst := rfl
@[simp] theorem installPage_memPermAct (c g f : BitVec 4) (s : State) :
    (installPage c g f s).memPermAct =
      vecFill s.memPermAct (chapterParagraph c f) (16 - f.toNat) fun _ => pagePerm s c g := rfl
@[simp] theorem installPage_memPermRst (c g f : BitVec 4) (s : State) :
    (installPage c g f s).memPermRst = s.memPermRst := rfl
@[simp] theorem installPage_pflMap (c g f : BitVec 4) (s : State) : (installPage c g f s).pflMap = s.pflMap := rfl
@[simp] theorem installPage_pflPerm (c g f : BitVec 4) (s : State) :
    (installPage c g f s).pflPerm = s.pflPerm := rfl
@[simp] theorem installPage_bsel (c g f : BitVec 4) (s : State) : (installPage c g f s).bsel = s.bsel := rfl
@[simp] theorem installPage_featureFlags (c g f : BitVec 4) (s : State) :
    (installPage c g f s).featureFlags = s.featureFlags := rfl
@[simp] theorem installPage_jlpAccelOn (c g f : BitVec 4) (s : State) :
    (installPage c g f s).jlpAccelOn = s.jlpAccelOn := rfl
@[simp] theorem installPage_ltoIsaEnabled (c g f : BitVec 4) (s : State) :
    (installPage c g f s).ltoIsaEnabled = s.ltoIsaEnabled := rfl
@[simp] theorem installPage_uid (c g f : BitVec 4) (s : State) : (installPage c g f s).uid = s.uid := rfl
@[simp] theorem installPage_jlpReg (c g f : BitVec 4) (s : State) : (installPage c g f s).jlpReg = s.jlpReg := rfl
@[simp] theorem installPage_jlpCrc (c g f : BitVec 4) (s : State) : (installPage c g f s).jlpCrc = s.jlpCrc := rfl
@[simp] theorem installPage_jlpSleep (c g f : BitVec 4) (s : State) :
    (installPage c g f s).jlpSleep = s.jlpSleep := rfl
@[simp] theorem installPage_jlpRng (c g f : BitVec 4) (s : State) : (installPage c g f s).jlpRng = s.jlpRng := rfl
@[simp] theorem installPage_sgAddr (c g f : BitVec 4) (s : State) : (installPage c g f s).sgAddr = s.sgAddr := rfl
@[simp] theorem installPage_sgRow (c g f : BitVec 4) (s : State) : (installPage c g f s).sgRow = s.sgRow := rfl
@[simp] theorem installPage_flash (c g f : BitVec 4) (s : State) : (installPage c g f s).flash = s.flash := rfl
@[simp] theorem installPage_ext (c g f : BitVec 4) (s : State) : (installPage c g f s).ext = s.ext := rfl
@[simp] theorem installPage_params (c g f : BitVec 4) (s : State) : (installPage c g f s).params = s.params := rfl
@[simp] theorem installPage_requests (c g f : BitVec 4) (s : State) :
    (installPage c g f s).requests = s.requests := rfl
@[simp] theorem installPage_response (c g f : BitVec 4) (s : State) :
    (installPage c g f s).response = s.response := rfl
@[simp] theorem installPage_fetch (c g f : BitVec 4) (s : State) : (installPage c g f s).fetch = s.fetch := rfl
@[simp] theorem installPage_draws (c g f : BitVec 4) (s : State) : (installPage c g f s).draws = s.draws := rfl

end Sys2Proof.Machine
end

