-- ==== Sys2Proof/Laws/Tables.lean ====
section
/-! SUPPORT. The laws of the tables: what is read after an entry is set or dropped, and the canonical form. -/

namespace Sys2Proof.Machine

variable {α : Type}

/-! ### Reading after a change -/

@[simp] theorem tableGet_nil (d : α) (k : Nat) : tableGet d [] k = d := rfl

theorem tableGet_cons (d : α) (e : Nat × α) (t : Table α) (k : Nat) :
    tableGet d (e :: t) k = if e.1 = k then e.2 else tableGet d t k := rfl

theorem tableGet_drop (d : α) (p : Nat → Bool) (t : Table α) (k : Nat) :
    tableGet d (tableDrop p t) k = if p k then d else tableGet d t k := by
  induction t with
  | nil => simp [tableDrop]
  | cons e t ih =>
    unfold tableDrop at ih ⊢
    rw [List.filter_cons]
    by_cases hk : e.1 = k
    · subst hk
      by_cases hp : p e.1 = true
      · simp [hp] at ih ⊢; exact ih
      · simp [hp, tableGet_cons]
    · by_cases hp : p e.1 = true <;> simp [hp, tableGet_cons, hk, ih]

theorem tableGet_insert (d : α) (t : Table α) (k j : Nat) (v : α) (h : ∀ e ∈ t, e.1 ≠ k) :
    tableGet d (tableInsert k v t) j = if k = j then v else tableGet d t j := by
  induction t with
  | nil => rfl
  | cons e t ih =>
    rw [tableInsert]
    split
    · rfl
    · have he := h e (by simp)
      rw [tableGet_cons, ih fun e' h' => h e' (by simp [h']), tableGet_cons]
      by_cases hj : e.1 = j
      · subst hj; simp [Ne.symm he]
      · simp [hj]

theorem mem_tableDrop {p : Nat → Bool} {t : Table α} {e : Nat × α} :
    e ∈ tableDrop p t ↔ e ∈ t ∧ p e.1 = false := by
  simp [tableDrop]

/-- Reading after an entry is set: the new value at its key, every other key as before. -/
theorem tableGet_set [DecidableEq α] (d : α) (t : Table α) (k j : Nat) (v : α) :
    tableGet d (tableSet d t k v) j = if k = j then v else tableGet d t j := by
  have hk : ∀ e ∈ tableDrop (· == k) t, e.1 ≠ k := fun e he => by simpa using (mem_tableDrop.1 he).2
  unfold tableSet
  split
  · rename_i hv
    rw [tableGet_drop]
    by_cases h : k = j
    · simp [h, hv]
    · simp [h, Ne.symm h]
  · rw [tableGet_insert d _ k j v hk, tableGet_drop]
    by_cases h : k = j
    · simp [h]
    · simp [h, Ne.symm h]

/-! ### Members after a change -/

theorem mem_tableInsert {k : Nat} {v : α} {t : Table α} {e : Nat × α} :
    e ∈ tableInsert k v t ↔ e = (k, v) ∨ e ∈ t := by
  induction t with
  | nil => simp [tableInsert]
  | cons a t ih =>
    rw [tableInsert]
    split
    · simp
    · simp only [List.mem_cons, ih]; tauto

/-- An entry after a set is the one set or one that was there at another key. -/
theorem mem_tableSet [DecidableEq α] {d : α} {t : Table α} {k : Nat} {v : α} {e : Nat × α}
    (h : e ∈ tableSet d t k v) : e = (k, v) ∧ v ≠ d ∨ e ∈ t ∧ e.1 ≠ k := by
  unfold tableSet at h
  split at h
  · exact .inr (by simpa using mem_tableDrop.1 h)
  · rename_i hv
    rcases mem_tableInsert.1 h with h | h
    · exact .inl ⟨h, hv⟩
    · exact .inr (by simpa using mem_tableDrop.1 h)

/-! ### The canonical form -/

theorem wf_nil (d : α) (bound : Nat) : Table.wf d bound [] := by simp [Table.wf]

/-- Dropping entries keeps the canonical form. -/
theorem wf_drop {d : α} {bound : Nat} {t : Table α} (p : Nat → Bool) (h : Table.wf d bound t) :
    Table.wf d bound (tableDrop p t) :=
  ⟨h.1.sublist (List.filter_sublist.map _), fun e he => h.2.1 e (mem_tableDrop.1 he).1,
    fun e he => h.2.2 e (mem_tableDrop.1 he).1⟩

theorem sorted_insert {k : Nat} {v : α} {t : Table α} (h : (t.map Prod.fst).Pairwise (· < ·))
    (hk : ∀ e ∈ t, e.1 ≠ k) : ((tableInsert k v t).map Prod.fst).Pairwise (· < ·) := by
  induction t with
  | nil => simp [tableInsert]
  | cons e t ih =>
    rw [List.map_cons, List.pairwise_cons] at h
    rw [tableInsert]
    split
    · rename_i hlt
      simp only [List.map_cons, List.pairwise_cons, List.mem_cons, List.mem_map] at h ⊢
      refine ⟨?_, h⟩
      rintro _ (rfl | ⟨e', he', rfl⟩)
      · exact hlt
      · exact hlt.trans (h.1 _ ⟨e', he', rfl⟩)
    · rename_i hlt
      have hne := hk e (by simp)
      rw [List.map_cons, List.pairwise_cons]
      refine ⟨?_, ih h.2 fun e' h' => hk e' (by simp [h'])⟩
      intro x hx
      obtain ⟨e', he', rfl⟩ := List.mem_map.1 hx
      rcases mem_tableInsert.1 he' with rfl | h'
      · show e.1 < k; omega
      · exact h.1 _ (List.mem_map.2 ⟨e', h', rfl⟩)

/-- Setting an entry below the bound keeps the canonical form. -/
theorem wf_set [DecidableEq α] {d : α} {bound : Nat} {t : Table α} {k : Nat} (v : α)
    (h : Table.wf d bound t) (hb : k < bound) : Table.wf d bound (tableSet d t k v) := by
  have hd := wf_drop (· == k) h
  have hk : ∀ e ∈ tableDrop (· == k) t, e.1 ≠ k := fun e he => by simpa using (mem_tableDrop.1 he).2
  refine ⟨?_, fun e he => ?_, fun e he => ?_⟩
  · unfold tableSet
    split
    · exact hd.1
    · exact sorted_insert hd.1 hk
  · rcases mem_tableSet he with ⟨rfl, hv⟩ | ⟨he, -⟩
    · exact hv
    · exact h.2.1 e he
  · rcases mem_tableSet he with ⟨rfl, -⟩ | ⟨he, -⟩
    · exact hb
    · exact h.2.2 e he

/-! ### Full tables -/

variable {n : Nat}

theorem vecGet_set (t : Vector α (2 ^ n)) (i j : BitVec n) (v : α) :
    vecGet (vecSet t i v) j = if i = j then v else vecGet t j := by
  simp [vecGet, vecSet, Vector.getElem_set, BitVec.toNat_inj]

@[simp] theorem vecGet_set_same (t : Vector α (2 ^ n)) (i : BitVec n) (v : α) :
    vecGet (vecSet t i v) i = v := by simp [vecGet_set]

theorem vecGet_fill (t : Vector α (2 ^ n)) (lo : BitVec n) (count : Nat) (f : Nat → α) (i : BitVec n) :
    vecGet (vecFill t lo count f) i =
      if lo.toNat ≤ i.toNat ∧ i.toNat < lo.toNat + count then f (i.toNat - lo.toNat) else vecGet t i := by
  simp [vecGet, vecFill]

@[simp] theorem vecGet_replicate (v : α) (i : BitVec n) : vecGet (Vector.replicate (2 ^ n) v) i = v := by
  simp [vecGet]

/-- Two full tables with the same entries are the same. -/
theorem vec_ext {t u : Vector α (2 ^ n)} (h : ∀ i : BitVec n, vecGet t i = vecGet u i) : t = u := by
  ext i hi
  simpa [vecGet, Nat.mod_eq_of_lt hi] using h (BitVec.ofNat n i)

end Sys2Proof.Machine
end

