-- ==== Sys2Proof/Laws/Ops.lean ====
section
/-! SUPPORT. What each shared operation can do, said once: its outcomes, what it changes, what it keeps. -/

namespace Sys2Proof.Machine

variable {α β : Type} {s t : State}

/-! ### Sequencing -/

@[simp] theorem andThen_ok (a : α) (k : α → State → Res β) : (Res.ok a s).andThen k = k a s := rfl
@[simp] theorem andThen_raise (r : FaultRecord) (k : α → State → Res β) :
    (Res.raise r s).andThen k = .raise r s := rfl
@[simp] theorem andThen_refuse (r : Refusal) (k : α → State → Res β) :
    (Res.refuse r).andThen k = .refuse r := rfl

theorem andThen_eq_ok {x : Res α} {k : α → State → Res β} {b : β} :
    x.andThen k = .ok b t ↔ ∃ a s, x = .ok a s ∧ k a s = .ok b t := by
  cases x <;> simp

theorem andThen_eq_raise {x : Res α} {k : α → State → Res β} {r : FaultRecord} :
    x.andThen k = .raise r t ↔ x = .raise r t ∨ ∃ a s, x = .ok a s ∧ k a s = .raise r t := by
  cases x <;> simp

theorem andThen_eq_refuse {x : Res α} {k : α → State → Res β} {r : Refusal} :
    x.andThen k = .refuse r ↔ x = .refuse r ∨ ∃ a s, x = .ok a s ∧ k a s = .refuse r := by
  cases x <;> simp

/-! ### The ends of a transaction -/

@[simp] theorem running_eq_next {k : Host.Outcome State Fault Refusal} :
    running s k = .next t ↔ s.fault = none ∧ k = .next t := by
  unfold running; cases s.fault <;> simp

theorem running_of_ok (h : s.fault = none) (k : Host.Outcome State Fault Refusal) : running s k = k := by
  simp [running, h]

theorem running_of_fault {r : FaultRecord} (h : s.fault = some r) (k : Host.Outcome State Fault Refusal) :
    running s k = .fault (.faulted r) := by
  simp [running, h]

@[simp] theorem finish_ok (answer : α → Response) (a : α) :
    finish answer (.ok a s) = .next { s with response := answer a } := rfl

/-- A transaction that answers a next state completed, or took a fatal fault. -/
theorem finish_eq_next {answer : α → Response} {x : Res α} :
    finish answer x = .next t ↔
      (∃ a s, x = .ok a s ∧ t = { s with response := answer a }) ∨
      (∃ r s, x = .raise r s ∧ t = { s with fault := some r, response := .raised r }) := by
  cases x <;> simp [finish, takeFault, eq_comm]

/-! ### The store -/

theorem ramRead_eq_ok {pa : Nat} {w : Word} :
    ramRead pa s = .ok w t ↔ pa < ramWords ∧ w = ramWord s pa ∧ t = s := by
  unfold ramRead; split <;> simp_all [eq_comm]

theorem ramRead_eq_raise {pa : Nat} {r : FaultRecord} :
    ramRead pa s = .raise r t ↔ ramWords ≤ pa ∧ r = .ramRange pa ∧ t = s := by
  unfold ramRead; split <;> simp_all [eq_comm]

theorem ramWrite_eq_ok {pa : Nat} {v : Word} {u : Unit} :
    ramWrite pa v s = .ok u t ↔ pa < ramWords ∧
      t = { s with
        ram := tableSet ramDefault s.ram pa v
        initialized := tableSet false s.initialized pa true } := by
  unfold ramWrite; split <;> simp_all [eq_comm]

theorem ramWrite_eq_raise {pa : Nat} {v : Word} {r : FaultRecord} :
    ramWrite pa v s = .raise r t ↔ ramWords ≤ pa ∧ r = .ramRange pa ∧ t = s := by
  unfold ramWrite; split <;> simp_all [eq_comm]

/-- A read after a write: the value at the written word, every other word as before. -/
theorem ramWord_ramWrite {pa : Nat} {v : Word} {u : Unit} (h : ramWrite pa v s = .ok u t) (pa' : Nat) :
    ramWord t pa' = if pa = pa' then v else ramWord s pa' := by
  obtain ⟨-, rfl⟩ := ramWrite_eq_ok.1 h
  exact tableGet_set ramDefault s.ram pa pa' v

theorem isInitialized_ramWrite {pa : Nat} {v : Word} {u : Unit} (h : ramWrite pa v s = .ok u t) (pa' : Nat) :
    isInitialized t pa' = if pa = pa' then true else isInitialized s pa' := by
  obtain ⟨-, rfl⟩ := ramWrite_eq_ok.1 h
  exact tableGet_set false s.initialized pa pa' true

theorem ramWrite_wf {pa : Nat} {v : Word} {u : Unit} (h : ramWrite pa v s = .ok u t) (hs : Memory.wf s.ram) :
    Memory.wf t.ram := by
  obtain ⟨hp, rfl⟩ := ramWrite_eq_ok.1 h
  exact wf_set v hs hp

theorem placeWord_wf {pa : Nat} {v : Word} (hp : pa < ramWords) (hs : Memory.wf s.ram) :
    Memory.wf (placeWord pa v s).ram := wf_set v hs hp

theorem reset_ram_wf : Memory.wf State.reset.ram := wf_nil _ _

/-! ### The decode cache -/

theorem cached_commitRecord (r : DecodedRecord) (s : State) (a : Word) :
    cached (commitRecord r s) a = if r.addr = a then some r else cached s a := by
  simp [cached, tableGet_set, BitVec.toNat_inj]

theorem cached_invalidateWritten (a b : Word) (s : State) :
    cached (invalidateWritten a s) b = if b = a ∨ b = a - 1#16 ∨ b = a - 2#16 then none else cached s b := by
  simp only [cached, invalidateWritten_icache, tableGet_drop, writtenCover, beq_iff_eq, Bool.or_eq_true,
    BitVec.toNat_inj, or_assoc]

theorem cached_invalidateRange (lo hi b : Word) (s : State) :
    cached (invalidateRange lo hi s) b = if rangeCover lo hi b.toNat then none else cached s b := by
  simp [cached, tableGet_drop]

/-! ### Reads -/

/-- A JLP read answers a word and changes the generator and the draws at most. -/
theorem jlpRead_spec (a : Word) (s : State) :
    ∃ w t, jlpRead a s = .ok w t ∧ t = { s with jlpRng := t.jlpRng, draws := t.draws } := by
  unfold jlpRead rngNext drawWord
  split_ifs <;> exact ⟨_, _, rfl, rfl⟩

/-- The exits of a bus read (43_locutus_bus.md R302). -/
theorem busRead_exits (a : Word) (force : Bool) (s : State) :
    busRead a force s =
      if 0 < s.jlpSleep then .ok sentinel (stall (mixRng a s))
      else if fixedUnmapped a then .ok sentinel (mixRng a s)
      else if s.jlpAccelOn && jlpReadWindow a then jlpRead a (mixRng a s)
      else if permR (activePerm s a) || force then ramRead (phys s a) (mixRng a s)
      else .ok sentinel (mixRng a s) := rfl

/-- A bus read is never refused: it answers a word, or the translated address is past the store. -/
theorem busRead_cases (a : Word) (force : Bool) (s : State) :
    (∃ w t, busRead a force s = .ok w t ∧
      t = { s with jlpRng := t.jlpRng, draws := t.draws, jlpSleep := s.jlpSleep - 1 }) ∨
    (busRead a force s = .raise (.ramRange (phys s a)) (mixRng a s) ∧ ramWords ≤ phys s a ∧
      s.jlpSleep = 0) := by
  rw [busRead_exits]
  by_cases hs : 0 < s.jlpSleep
  · rw [if_pos hs]; exact .inl ⟨sentinel, stall (mixRng a s), rfl, rfl⟩
  · have h0 : s.jlpSleep = 0 := by omega
    have hmix : mixRng a s =
        { s with
          jlpRng := (mixRng a s).jlpRng, draws := (mixRng a s).draws, jlpSleep := s.jlpSleep - 1 } := by
      simp [mixRng, h0]
    rw [if_neg hs]
    split
    · exact .inl ⟨sentinel, mixRng a s, rfl, hmix⟩
    split
    · obtain ⟨w, t, ht, he⟩ := jlpRead_spec a (mixRng a s)
      exact .inl ⟨w, t, ht, by rw [he]; simp [mixRng, h0]⟩
    split
    · unfold ramRead
      split
      · exact .inl ⟨_, mixRng a s, rfl, hmix⟩
      · exact .inr ⟨rfl, by omega, h0⟩
    · exact .inl ⟨sentinel, mixRng a s, rfl, hmix⟩

theorem busRead_eq_ok {a : Word} {force : Bool} {w : Word} (h : busRead a force s = .ok w t) :
    t = { s with jlpRng := t.jlpRng, draws := t.draws, jlpSleep := s.jlpSleep - 1 } := by
  rcases busRead_cases a force s with ⟨w', t', h', ht⟩ | ⟨h', -⟩
  · rw [h'] at h; cases h; exact ht
  · rw [h'] at h; cases h

theorem busRead_eq_raise {a : Word} {force : Bool} {r : FaultRecord} (h : busRead a force s = .raise r t) :
    r = .ramRange (phys s a) ∧ t = mixRng a s ∧ ramWords ≤ phys s a ∧ s.jlpSleep = 0 := by
  rcases busRead_cases a force s with ⟨w', t', h', -⟩ | ⟨h', hp, hs⟩
  · rw [h'] at h; cases h
  · rw [h'] at h; cases h; exact ⟨rfl, rfl, hp, hs⟩

theorem busRead_ne_refuse (a : Word) (force : Bool) (s : State) (r : Refusal) :
    busRead a force s ≠ .refuse r := by
  rcases busRead_cases a force s with ⟨w', t', h', -⟩ | ⟨h', -⟩ <;> rw [h'] <;> simp

/-! ### The parts of a write -/

/-- The PV shadow changes JLP register 13 at most, and to the old word of a store address that exists. -/
theorem pvShadow_eq_ok {a : Word} {u : Unit} (h : pvShadow a s = .ok u t) :
    t = s ∨ phys s a < ramWords ∧ t = setJlpRegister 13#4 (ramWord s (phys s a)) s := by
  unfold pvShadow at h
  split at h
  · obtain ⟨w, s', hr, hk⟩ := andThen_eq_ok.1 h
    obtain ⟨hp, rfl, rfl⟩ := ramRead_eq_ok.1 hr
    cases hk; exact .inr ⟨hp, rfl⟩
  · cases h; exact .inl rfl

theorem pvShadow_eq_raise {a : Word} {r : FaultRecord} (h : pvShadow a s = .raise r t) :
    t = s ∧ r = .ramRange (phys s a) ∧ ramWords ≤ phys s a := by
  unfold pvShadow at h
  split at h
  · rcases andThen_eq_raise.1 h with hr | ⟨_, _, -, hk⟩
    · obtain ⟨hp, rfl, rfl⟩ := ramRead_eq_raise.1 hr; exact ⟨rfl, rfl, hp⟩
    · cases hk
  · cases h

theorem pvShadow_ne_refuse (a : Word) (s : State) (r : Refusal) : pvShadow a s ≠ .refuse r := by
  unfold pvShadow ramRead
  split_ifs <;> simp

end Sys2Proof.Machine
end

