-- ==== Sys2Proof/Laws/Write.lean ====
section
/-! SUPPORT. What the branches of a bus write can change, and what no bus transaction changes. -/

namespace Sys2Proof.Machine

variable {s t u : State}

/-! ### SameSetup -/

theorem SameSetup_refl (s : State) : s.SameSetup s := ⟨rfl, rfl, rfl, rfl, rfl, rfl, rfl⟩

theorem SameSetup_trans (h : s.SameSetup t) (h' : t.SameSetup u) : s.SameSetup u :=
  ⟨h'.1.trans h.1, h'.2.trans h.2, h'.3.trans h.3, h'.4.trans h.4, h'.5.trans h.5, h'.6.trans h.6,
    h'.7.trans h.7⟩

theorem mixRng_same (a : Word) (s : State) : s.SameSetup (mixRng a s) := ⟨rfl, rfl, rfl, rfl, rfl, rfl, rfl⟩

/-! ### On, off and the tables -/

theorem jlpTurnOn_frame (s : State) :
    jlpTurnOn s =
      { s with
        icache := (jlpTurnOn s).icache, jlpAccelOn := true
        memMapAct := (jlpTurnOn s).memMapAct, memPermAct := (jlpTurnOn s).memPermAct } := by
  unfold jlpTurnOn
  split
  · rename_i h; rw [← h]
  · rfl

theorem jlpTurnOff_frame (s : State) :
    jlpTurnOff s =
      { s with
        icache := (jlpTurnOff s).icache, jlpAccelOn := false
        memMapAct := (jlpTurnOff s).memMapAct, memPermAct := (jlpTurnOff s).memPermAct } := rfl

theorem bankswitch_frame (a v : Word) (s : State) :
    bankswitch a v s =
      { s with icache := (bankswitch a v s).icache, memMapAct := (bankswitch a v s).memMapAct } := by
  simp only [bankswitch]; split <;> rfl

theorem pageFlip_frame (a v : Word) (s : State) :
    pageFlip a v s =
      { s with
        icache := (pageFlip a v s).icache, bsel := (pageFlip a v s).bsel
        memMapAct := (pageFlip a v s).memMapAct, memPermAct := (pageFlip a v s).memPermAct } := by
  simp only [pageFlip]; split <;> rfl

theorem mapper_frame (a v : Word) (s : State) :
    mapper a v s =
      { s with
        icache := (mapper a v s).icache, memMapAct := (mapper a v s).memMapAct
        memMapRst := (mapper a v s).memMapRst, memPermAct := (mapper a v s).memPermAct
        memPermRst := (mapper a v s).memPermRst, pflMap := (mapper a v s).pflMap
        pflPerm := (mapper a v s).pflPerm } := by
  unfold mapper setMap setPerm
  split
  · split <;> rfl
  split
  · split <;> rfl
  · rfl

/-! ### The JLP registers and commands -/

theorem muldiv_frame (k : BitVec 3) (s : State) : muldiv k s = { s with jlpReg := (muldiv k s).jlpReg } := by
  simp only [muldiv, divSs, divUu]
  repeat' split
  all_goals rfl

/-- A copy to the flash changes the flash only, and is never refused. -/
theorem copyToFlash_frame {rw row count j : Nat} {s t : State} :
    (∀ u, copyToFlash rw row count j s = .ok u t → t = { s with flash := t.flash }) ∧
    (∀ r, copyToFlash rw row count j s = .raise r t → t = { s with flash := t.flash }) ∧
    (∀ r, copyToFlash rw row count j s ≠ .refuse r) := by
  induction count generalizing j s with
  | zero => exact ⟨fun _ h => by cases h; rfl, fun _ h => (nomatch h), fun _ h => (nomatch h)⟩
  | succ count ih =>
    refine ⟨fun u h => ?_, fun r h => ?_, fun r h => ?_⟩
    · obtain ⟨w, s', hr, hk⟩ := andThen_eq_ok.1 h
      obtain ⟨-, rfl, rfl⟩ := ramRead_eq_ok.1 hr
      have h' := ih.1 u hk
      exact h'
    · rcases andThen_eq_raise.1 h with hr | ⟨w, s', hr, hk⟩
      · obtain ⟨-, -, rfl⟩ := ramRead_eq_raise.1 hr; rfl
      · obtain ⟨-, rfl, rfl⟩ := ramRead_eq_ok.1 hr
        have h' := ih.2.1 r hk
        exact h'
    · rcases andThen_eq_refuse.1 h with hr | ⟨w, s', hr, hk⟩
      · revert hr; unfold ramRead; split <;> simp
      · exact ih.2.2 r hk

/-- A copy to the store changes the store and the initialized bits only, and is never refused. -/
theorem copyToRam_frame {rw row count j : Nat} {s t : State} :
    (∀ u, copyToRam rw row count j s = .ok u t → t = { s with ram := t.ram, initialized := t.initialized }) ∧
    (∀ r, copyToRam rw row count j s = .raise r t → t = { s with ram := t.ram, initialized := t.initialized }) ∧
    (∀ r, copyToRam rw row count j s ≠ .refuse r) := by
  induction count generalizing j s with
  | zero => exact ⟨fun _ h => by cases h; rfl, fun _ h => (nomatch h), fun _ h => (nomatch h)⟩
  | succ count ih =>
    refine ⟨fun u h => ?_, fun r h => ?_, fun r h => ?_⟩
    · obtain ⟨w, s', hr, hk⟩ := andThen_eq_ok.1 h
      obtain ⟨-, rfl⟩ := ramWrite_eq_ok.1 hr
      have h' := ih.1 u hk
      exact h'
    · rcases andThen_eq_raise.1 h with hr | ⟨w, s', hr, hk⟩
      · obtain ⟨-, -, rfl⟩ := ramWrite_eq_raise.1 hr; rfl
      · obtain ⟨-, rfl⟩ := ramWrite_eq_ok.1 hr
        have h' := ih.2.1 r hk
        exact h'
    · rcases andThen_eq_refuse.1 h with hr | ⟨w, s', hr, hk⟩
      · revert hr; unfold ramWrite; split <;> simp
      · exact ih.2.2 r hk

/-- The store keeps its canonical form through a copy. -/
theorem copyToRam_wf {rw row count j : Nat} {s t : State} {u : Unit}
    (h : copyToRam rw row count j s = .ok u t) (hs : Memory.wf s.ram) : Memory.wf t.ram := by
  induction count generalizing j s with
  | zero => cases h; exact hs
  | succ count ih =>
    obtain ⟨w, s', hr, hk⟩ := andThen_eq_ok.1 h
    exact ih hk (ramWrite_wf hr hs)

/-- A part of a write leaves what no bus transaction changes, whether it completes or raises. -/
def Res.KeepsSetup {α : Type} (s : State) (x : Res α) : Prop :=
  (∀ a t, x = .ok a t → s.SameSetup t) ∧ (∀ r t, x = .raise r t → s.SameSetup t)

theorem keeps_ok {α : Type} {a : α} (h : s.SameSetup t) : (Res.ok a t).KeepsSetup s :=
  ⟨fun _ _ e => by cases e; exact h, fun _ _ e => (nomatch e)⟩

theorem keeps_refuse {α : Type} {r : Refusal} : (Res.refuse r : Res α).KeepsSetup s :=
  ⟨fun _ _ e => (nomatch e), fun _ _ e => (nomatch e)⟩

theorem keeps_andThen {α β : Type} {x : Res α} {k : α → State → Res β} (hx : x.KeepsSetup s)
    (hk : ∀ a t, s.SameSetup t → (k a t).KeepsSetup t) : (x.andThen k).KeepsSetup s := by
  refine ⟨fun b t h => ?_, fun r t h => ?_⟩
  · obtain ⟨a, s', h1, h2⟩ := andThen_eq_ok.1 h
    have h3 := hx.1 _ _ h1
    exact SameSetup_trans h3 ((hk a s' h3).1 _ _ h2)
  · rcases andThen_eq_raise.1 h with h1 | ⟨a, s', h1, h2⟩
    · exact hx.2 _ _ h1
    · have h3 := hx.1 _ _ h1
      exact SameSetup_trans h3 ((hk a s' h3).2 _ _ h2)

theorem keeps_whenValid {c : Check} {k : Nat → Res Unit} (hk : ∀ n, (k n).KeepsSetup s) :
    (whenValid c s k).KeepsSetup s := by
  unfold whenValid
  split
  · exact keeps_refuse
  · exact keeps_ok (SameSetup_refl s)
  · split
    · exact keeps_refuse
    · exact hk _

theorem keeps_of_same {α : Type} {x : Res α} (h : s.SameSetup t) (hx : x.KeepsSetup t) : x.KeepsSetup s :=
  ⟨fun a u e => SameSetup_trans h (hx.1 a u e), fun r u e => SameSetup_trans h (hx.2 r u e)⟩

theorem keeps_copyToFlash {rw row count j : Nat} : (copyToFlash rw row count j s).KeepsSetup s :=
  ⟨fun _ _ h => by rw [copyToFlash_frame.1 _ h]; exact ⟨rfl, rfl, rfl, rfl, rfl, rfl, rfl⟩,
    fun _ _ h => by rw [copyToFlash_frame.2.1 _ h]; exact ⟨rfl, rfl, rfl, rfl, rfl, rfl, rfl⟩⟩

theorem keeps_copyToRam {rw row count j : Nat} : (copyToRam rw row count j s).KeepsSetup s :=
  ⟨fun _ _ h => by rw [copyToRam_frame.1 _ h]; exact ⟨rfl, rfl, rfl, rfl, rfl, rfl, rfl⟩,
    fun _ _ h => by rw [copyToRam_frame.2.1 _ h]; exact ⟨rfl, rfl, rfl, rfl, rfl, rfl, rfl⟩⟩

theorem drawSleep_same (lo n : Nat) (s : State) : s.SameSetup (drawSleep lo n s) :=
  ⟨rfl, rfl, rfl, rfl, rfl, rfl, rfl⟩

theorem keeps_ramToFlash : (ramToFlash s).KeepsSetup s := by
  refine keeps_of_same (drawSleep_same 400 200 s) (keeps_whenValid fun n => ?_)
  split
  · exact keeps_copyToFlash
  · exact keeps_ok (SameSetup_refl _)

theorem keeps_flashToRam : (flashToRam s).KeepsSetup s := by
  refine keeps_of_same (drawSleep_same 10 20 s) (keeps_whenValid fun n => ?_)
  exact keeps_andThen keeps_copyToRam fun _ _ _ => keeps_ok ⟨rfl, rfl, rfl, rfl, rfl, rfl, rfl⟩

theorem keeps_sectorErase : (sectorErase s).KeepsSetup s :=
  keeps_of_same (drawSleep_same 800 200 s)
    (keeps_whenValid fun _ => keeps_ok ⟨rfl, rfl, rfl, rfl, rfl, rfl, rfl⟩)

theorem jlpTurnOff_same (s : State) : s.SameSetup (jlpTurnOff s) := ⟨rfl, rfl, rfl, rfl, rfl, rfl, rfl⟩

theorem keeps_jlpLock (v : Word) : (jlpLock v s).KeepsSetup s := by
  unfold jlpLock
  split
  · exact keeps_refuse
  · exact keeps_ok (jlpTurnOff_same s)
  · split
    · exact keeps_ok (jlpTurnOff_same s)
    · exact keeps_ok (SameSetup_refl s)

theorem writeJlpRegister_same (i : BitVec 4) (v : Word) (s : State) : s.SameSetup (writeJlpRegister i v s) := by
  unfold writeJlpRegister
  rw [muldiv_frame]
  exact ⟨rfl, rfl, rfl, rfl, rfl, rfl, rfl⟩

theorem keeps_jlpWrite (a v : Word) : (jlpWrite a v s).KeepsSetup s := by
  unfold jlpWrite
  repeat' split
  all_goals first
    | exact keeps_ramToFlash
    | exact keeps_flashToRam
    | exact keeps_sectorErase
    | exact keeps_jlpLock v
    | exact keeps_ok (writeJlpRegister_same _ _ _)
    | exact keeps_ok ⟨rfl, rfl, rfl, rfl, rfl, rfl, rfl⟩

/-! ### The whole write -/

theorem keeps_ramStore (a v : Word) : (ramStore a v s).KeepsSetup s := by
  unfold ramStore ramWrite
  repeat' split
  · exact keeps_ok ⟨rfl, rfl, rfl, rfl, rfl, rfl, rfl⟩
  · exact ⟨fun _ _ e => (nomatch e), fun _ _ e => by cases e; exact SameSetup_refl s⟩
  · exact keeps_ok (SameSetup_refl s)

theorem keeps_pvShadow (a : Word) : (pvShadow a s).KeepsSetup s := by
  refine ⟨fun _ _ h => ?_, fun _ _ h => ?_⟩
  · rcases pvShadow_eq_ok h with rfl | ⟨-, rfl⟩ <;> exact ⟨rfl, rfl, rfl, rfl, rfl, rfl, rfl⟩
  · obtain ⟨rfl, -⟩ := pvShadow_eq_raise h; exact SameSetup_refl _

theorem keeps_writeBranch (a v : Word) : (writeBranch a v s).KeepsSetup s := by
  unfold writeBranch
  repeat' split
  · refine keeps_ok ?_; rw [bankswitch_frame]; exact ⟨rfl, rfl, rfl, rfl, rfl, rfl, rfl⟩
  · exact keeps_jlpWrite a v
  · refine keeps_ok ?_; rw [jlpTurnOn_frame]; exact ⟨rfl, rfl, rfl, rfl, rfl, rfl, rfl⟩
  · refine keeps_ok ?_; rw [pageFlip_frame]; exact ⟨rfl, rfl, rfl, rfl, rfl, rfl, rfl⟩
  · refine keeps_ok ?_; rw [mapper_frame]; exact ⟨rfl, rfl, rfl, rfl, rfl, rfl, rfl⟩
  · exact keeps_ramStore a v

/-- The exits of a bus write (43_locutus_bus.md R304). -/
theorem busWrite_exits (a v : Word) (s : State) :
    busWrite a v s =
      if 0 < s.jlpSleep then .ok () (invalidateWritten a (stall (mixRng a s)))
      else
        (pvShadow a (mixRng a s)).andThen fun _ s =>
          (writeBranch a v s).andThen fun _ s => .ok () (invalidateWritten a s) := rfl

/-- No bus write changes the configuration, the latch, the queue or the decode in progress. -/
theorem keeps_busWrite (a v : Word) : (busWrite a v s).KeepsSetup s := by
  rw [busWrite_exits]
  split
  · exact keeps_ok ⟨rfl, rfl, rfl, rfl, rfl, rfl, rfl⟩
  · refine keeps_of_same (mixRng_same a s) (keeps_andThen (keeps_pvShadow a) fun _ _ _ => ?_)
    exact keeps_andThen (keeps_writeBranch a v) fun _ _ _ => keeps_ok ⟨rfl, rfl, rfl, rfl, rfl, rfl, rfl⟩

/-- The PV shadow of a write, where it raises no fault. -/
theorem pvShadow_eq_afterShadow {a : Word} (h : shadowOk s a) :
    pvShadow a (mixRng a s) = .ok () (afterShadow a s) := by
  have hp : phys (mixRng a s) a = phys s a := rfl
  have hq : activePerm (mixRng a s) a = activePerm s a := rfl
  unfold pvShadow afterShadow
  rw [hp, hq]
  split
  · rename_i hc
    rw [Bool.and_eq_true, Bool.or_eq_true, bne_iff_ne] at hc
    rw [ramRead, if_pos (h hc.1 hc.2)]
    rfl
  · rfl

/-- A bus write that is not stalled and whose shadow raises no fault: its branch, then the invalidation. -/
theorem busWrite_quiet {a v : Word} (hs : s.jlpSleep = 0) (h : shadowOk s a) :
    busWrite a v s =
      (writeBranch a v (afterShadow a s)).andThen fun _ s => .ok () (invalidateWritten a s) := by
  rw [busWrite_exits, if_neg (by omega), pvShadow_eq_afterShadow h, andThen_ok]

/-- What the shadow leaves: all but JLP register 13, the generator and the draws. -/
theorem afterShadow_frame (a : Word) (s : State) :
    afterShadow a s =
      { s with
        jlpReg := (afterShadow a s).jlpReg, jlpRng := (afterShadow a s).jlpRng
        draws := (afterShadow a s).draws } := by
  unfold afterShadow; split <;> rfl

/-- After a bus write that completes, the records of a, a - 1 and a - 2 are gone (41_decode.md R173). -/
theorem busWrite_invalidates {a v b : Word} {x : Unit} (h : busWrite a v s = .ok x t)
    (hb : b = a ∨ b = a - 1#16 ∨ b = a - 2#16) : cached t b = none := by
  rw [busWrite_exits] at h
  split at h
  · cases h; rw [cached_invalidateWritten, if_pos hb]
  · obtain ⟨_, _, -, h⟩ := andThen_eq_ok.1 h
    obtain ⟨_, _, -, h⟩ := andThen_eq_ok.1 h
    cases h; rw [cached_invalidateWritten, if_pos hb]

end Sys2Proof.Machine
end

