-- ==== Sys2Proof/Laws/Decode.lean ====
section
/-! SUPPORT. What the fetches of a decode can do, and what a step is. -/

namespace Sys2Proof.Machine

variable {s t : State}

/-- The fetches change the generator, the draws and the sleep counter at most, and the counter only falls. -/
def FetchFrame (s t : State) : Prop :=
  t = { s with jlpRng := t.jlpRng, draws := t.draws, jlpSleep := t.jlpSleep } ∧ t.jlpSleep ≤ s.jlpSleep

theorem FetchFrame_refl (s : State) : FetchFrame s s := ⟨rfl, le_refl _⟩

theorem FetchFrame_trans {u : State} (h : FetchFrame s t) (h' : FetchFrame t u) : FetchFrame s u := by
  refine ⟨?_, h'.2.trans h.2⟩
  rw [h'.1, h.1]

theorem FetchFrame_mixRng (a : Word) (s : State) : FetchFrame s (mixRng a s) := ⟨rfl, le_refl _⟩

theorem FetchFrame_busRead {a : Word} {force : Bool} {w : Word} (h : busRead a force s = .ok w t) :
    FetchFrame s t := by
  have h' := busRead_eq_ok h
  refine ⟨?_, ?_⟩
  · rw [h']
  · rw [h']; exact Nat.sub_le _ _

/-- A part of a decode that only fetches. -/
def Res.Fetches {α : Type} (s : State) (x : Res α) : Prop :=
  (∀ a t, x = .ok a t → FetchFrame s t) ∧ (∀ r t, x = .raise r t → FetchFrame s t) ∧ ∀ r, x ≠ .refuse r

theorem fetches_ok {α : Type} {a : α} (h : FetchFrame s t) : (Res.ok a t).Fetches s :=
  ⟨fun _ _ e => by cases e; exact h, fun _ _ e => (nomatch e), fun _ e => (nomatch e)⟩

theorem fetches_raise {α : Type} {r : FaultRecord} (h : FetchFrame s t) : (Res.raise r t : Res α).Fetches s :=
  ⟨fun _ _ e => (nomatch e), fun _ _ e => by cases e; exact h, fun _ e => (nomatch e)⟩

theorem fetches_busRead (a : Word) (force : Bool) : (busRead a force s).Fetches s :=
  ⟨fun _ _ h => FetchFrame_busRead h,
    fun _ _ h => by obtain ⟨-, rfl, -⟩ := busRead_eq_raise h; exact FetchFrame_mixRng a s,
    busRead_ne_refuse a force s⟩

theorem fetches_andThen {α β : Type} {x : Res α} {k : α → State → Res β} (hx : x.Fetches s)
    (hk : ∀ a t, (k a t).Fetches t) : (x.andThen k).Fetches s := by
  refine ⟨fun b t h => ?_, fun r t h => ?_, fun r h => ?_⟩
  · obtain ⟨a, s', h1, h2⟩ := andThen_eq_ok.1 h
    exact FetchFrame_trans (hx.1 _ _ h1) ((hk a s').1 _ _ h2)
  · rcases andThen_eq_raise.1 h with h1 | ⟨a, s', h1, h2⟩
    · exact hx.2.1 _ _ h1
    · exact FetchFrame_trans (hx.1 _ _ h1) ((hk a s').2.1 _ _ h2)
  · rcases andThen_eq_refuse.1 h with h1 | ⟨a, s', h1, h2⟩
    · exact hx.2.2 _ h1
    · exact (hk a s').2.2 _ h2

theorem fetches_fetchRest (a : Word) (len : Nat) : (fetchRest a len s).Fetches s := by
  unfold fetchRest
  split
  · exact fetches_ok (FetchFrame_refl s)
  · refine fetches_andThen (fetches_busRead _ _) fun w2 t => ?_
    split
    · exact fetches_ok (FetchFrame_refl t)
    · exact fetches_andThen (fetches_busRead _ _) fun _ u => fetches_ok (FetchFrame_refl u)

/-- The fetches of a decode (41_decode.md R176). -/
theorem fetches_fetchWords (a : Word) : (fetchWords a s).Fetches s := by
  refine fetches_andThen (fetches_busRead _ _) fun w1 t => ?_
  split
  · split
    · exact fetches_ok (FetchFrame_refl t)
    · exact fetches_raise (FetchFrame_refl t)
  · refine fetches_andThen (fetches_busRead _ _) fun lb u => ?_
    exact fetches_andThen (fetches_fetchRest _ _) fun _ v => fetches_ok (FetchFrame_refl v)

/-! ### The step -/

theorem step_nil (h : s.requests = []) : step s = .next s := by simp [step, h]

theorem step_cons {r : Request} {rest : List Request} (h : s.requests = r :: rest) :
    step s = exec (decodeRequest r) { s with requests := rest } := by simp [step, h]

/-- What a step that answers a next state is: idle, or the first transaction run. -/
theorem step_cases (h : step s = .next t) :
    s.requests = [] ∧ t = s ∨
      ∃ r rest, s.requests = r :: rest ∧ exec (decodeRequest r) { s with requests := rest } = .next t := by
  rcases hr : s.requests with _ | ⟨r, rest⟩
  · rw [step_nil hr] at h; cases h; exact .inl ⟨rfl, rfl⟩
  · rw [step_cons hr] at h; exact .inr ⟨r, rest, rfl, h⟩

end Sys2Proof.Machine
end

