-- ==== Sys2Proof/Laws/PerInstr.lean ====
section
/-! SUPPORT. One fact of every constructor: an instruction is carried by words of memory, anything else by a
transaction of the caller, never both and never neither. -/

/-- What carries a term of `Instr`: words, or else a transaction. -/
def Sys2Proof.Laws.Carrier.Statement (i : Sys2Proof.Instr) : Prop :=
  ∀ sdbd, (Sys2Proof.encodeWords sdbd i).isSome = !(Sys2Proof.encodeRequest i).isSome

namespace Sys2Proof.Laws

open Sys2Proof

theorem Carrier.hlt : Carrier.Statement .hlt := fun _ => rfl
theorem Carrier.sdbd : Carrier.Statement .sdbd := fun _ => rfl
theorem Carrier.eis : Carrier.Statement .eis := fun _ => rfl
theorem Carrier.dis : Carrier.Statement .dis := fun _ => rfl
theorem Carrier.tci : Carrier.Statement .tci := fun _ => rfl
theorem Carrier.clrc : Carrier.Statement .clrc := fun _ => rfl
theorem Carrier.setc : Carrier.Statement .setc := fun _ => rfl
theorem Carrier.incr (n : BitVec 3) : Carrier.Statement (.incr n) := fun _ => rfl
theorem Carrier.decr (n : BitVec 3) : Carrier.Statement (.decr n) := fun _ => rfl
theorem Carrier.comr (n : BitVec 3) : Carrier.Statement (.comr n) := fun _ => rfl
theorem Carrier.negr (n : BitVec 3) : Carrier.Statement (.negr n) := fun _ => rfl
theorem Carrier.adcr (n : BitVec 3) : Carrier.Statement (.adcr n) := fun _ => rfl
theorem Carrier.rswd (n : BitVec 3) : Carrier.Statement (.rswd n) := fun _ => rfl
theorem Carrier.gswd (n : BitVec 2) : Carrier.Statement (.gswd n) := fun _ => rfl
theorem Carrier.nop (b : BitVec 1) : Carrier.Statement (.nop b) := fun _ => rfl
theorem Carrier.sin (b : BitVec 1) : Carrier.Statement (.sin b) := fun _ => rfl
theorem Carrier.swap (n : BitVec 2) (k : BitVec 1) : Carrier.Statement (.swap n k) := fun _ => rfl
theorem Carrier.sll (n : BitVec 2) (k : BitVec 1) : Carrier.Statement (.sll n k) := fun _ => rfl
theorem Carrier.rlc (n : BitVec 2) (k : BitVec 1) : Carrier.Statement (.rlc n k) := fun _ => rfl
theorem Carrier.sllc (n : BitVec 2) (k : BitVec 1) : Carrier.Statement (.sllc n k) := fun _ => rfl
theorem Carrier.slr (n : BitVec 2) (k : BitVec 1) : Carrier.Statement (.slr n k) := fun _ => rfl
theorem Carrier.sar (n : BitVec 2) (k : BitVec 1) : Carrier.Statement (.sar n k) := fun _ => rfl
theorem Carrier.rrc (n : BitVec 2) (k : BitVec 1) : Carrier.Statement (.rrc n k) := fun _ => rfl
theorem Carrier.sarc (n : BitVec 2) (k : BitVec 1) : Carrier.Statement (.sarc n k) := fun _ => rfl
theorem Carrier.movr (src : BitVec 3) (dst : BitVec 3) : Carrier.Statement (.movr src dst) := fun _ => rfl
theorem Carrier.tstr (n : BitVec 3) : Carrier.Statement (.tstr n) := fun _ => rfl
theorem Carrier.addr (src : BitVec 3) (dst : BitVec 3) : Carrier.Statement (.addr src dst) := fun _ => rfl
theorem Carrier.subr (src : BitVec 3) (dst : BitVec 3) : Carrier.Statement (.subr src dst) := fun _ => rfl
theorem Carrier.cmpr (src : BitVec 3) (dst : BitVec 3) : Carrier.Statement (.cmpr src dst) := fun _ => rfl
theorem Carrier.andr (src : BitVec 3) (dst : BitVec 3) : Carrier.Statement (.andr src dst) := fun _ => rfl
theorem Carrier.xorr (src : BitVec 3) (dst : BitVec 3) : Carrier.Statement (.xorr src dst) := fun _ => rfl
theorem Carrier.j (t : Word) : Carrier.Statement (.j t) := fun _ => rfl
theorem Carrier.je (t : Word) : Carrier.Statement (.je t) := fun _ => rfl
theorem Carrier.jd (t : Word) : Carrier.Statement (.jd t) := fun _ => rfl
theorem Carrier.jsr (rr : BitVec 2) (t : Word) : Carrier.Statement (.jsr rr t) := fun _ => rfl
theorem Carrier.jsre (rr : BitVec 2) (t : Word) : Carrier.Statement (.jsre rr t) := fun _ => rfl
theorem Carrier.jsrd (rr : BitVec 2) (t : Word) : Carrier.Statement (.jsrd rr t) := fun _ => rfl
theorem Carrier.jRsv (t : Word) : Carrier.Statement (.jRsv t) := fun _ => rfl
theorem Carrier.jsrRsv (rr : BitVec 2) (t : Word) : Carrier.Statement (.jsrRsv rr t) := fun _ => rfl
theorem Carrier.b (d : Direction) (disp : Word) : Carrier.Statement (.b d disp) := fun _ => rfl
theorem Carrier.bc (d : Direction) (disp : Word) : Carrier.Statement (.bc d disp) := fun _ => rfl
theorem Carrier.bov (d : Direction) (disp : Word) : Carrier.Statement (.bov d disp) := fun _ => rfl
theorem Carrier.bpl (d : Direction) (disp : Word) : Carrier.Statement (.bpl d disp) := fun _ => rfl
theorem Carrier.beq (d : Direction) (disp : Word) : Carrier.Statement (.beq d disp) := fun _ => rfl
theorem Carrier.blt (d : Direction) (disp : Word) : Carrier.Statement (.blt d disp) := fun _ => rfl
theorem Carrier.ble (d : Direction) (disp : Word) : Carrier.Statement (.ble d disp) := fun _ => rfl
theorem Carrier.busc (d : Direction) (disp : Word) : Carrier.Statement (.busc d disp) := fun _ => rfl
theorem Carrier.nopp (d : Direction) (disp : Word) : Carrier.Statement (.nopp d disp) := fun _ => rfl
theorem Carrier.bnc (d : Direction) (disp : Word) : Carrier.Statement (.bnc d disp) := fun _ => rfl
theorem Carrier.bnov (d : Direction) (disp : Word) : Carrier.Statement (.bnov d disp) := fun _ => rfl
theorem Carrier.bmi (d : Direction) (disp : Word) : Carrier.Statement (.bmi d disp) := fun _ => rfl
theorem Carrier.bneq (d : Direction) (disp : Word) : Carrier.Statement (.bneq d disp) := fun _ => rfl
theorem Carrier.bge (d : Direction) (disp : Word) : Carrier.Statement (.bge d disp) := fun _ => rfl
theorem Carrier.bgt (d : Direction) (disp : Word) : Carrier.Statement (.bgt d disp) := fun _ => rfl
theorem Carrier.besc (d : Direction) (disp : Word) : Carrier.Statement (.besc d disp) := fun _ => rfl
theorem Carrier.bext (d : Direction) (e : BitVec 4) (disp : Word) :
    Carrier.Statement (.bext d e disp) := fun _ => rfl
theorem Carrier.mvo (r : BitVec 3) (ea : Word) : Carrier.Statement (.mvo r ea) := fun _ => rfl
theorem Carrier.mvi (r : BitVec 3) (ea : Word) : Carrier.Statement (.mvi r ea) := fun _ => rfl
theorem Carrier.add (r : BitVec 3) (ea : Word) : Carrier.Statement (.add r ea) := fun _ => rfl
theorem Carrier.sub (r : BitVec 3) (ea : Word) : Carrier.Statement (.sub r ea) := fun _ => rfl
theorem Carrier.cmp (r : BitVec 3) (ea : Word) : Carrier.Statement (.cmp r ea) := fun _ => rfl
theorem Carrier.and (r : BitVec 3) (ea : Word) : Carrier.Statement (.and r ea) := fun _ => rfl
theorem Carrier.xor (r : BitVec 3) (ea : Word) : Carrier.Statement (.xor r ea) := fun _ => rfl
theorem Carrier.mvoInd (m : BitVec 3) (r : BitVec 3) : Carrier.Statement (.mvoInd m r) := fun _ => rfl
theorem Carrier.mviInd (m : BitVec 3) (r : BitVec 3) : Carrier.Statement (.mviInd m r) := fun _ => rfl
theorem Carrier.addInd (m : BitVec 3) (r : BitVec 3) : Carrier.Statement (.addInd m r) := fun _ => rfl
theorem Carrier.subInd (m : BitVec 3) (r : BitVec 3) : Carrier.Statement (.subInd m r) := fun _ => rfl
theorem Carrier.cmpInd (m : BitVec 3) (r : BitVec 3) : Carrier.Statement (.cmpInd m r) := fun _ => rfl
theorem Carrier.andInd (m : BitVec 3) (r : BitVec 3) : Carrier.Statement (.andInd m r) := fun _ => rfl
theorem Carrier.xorInd (m : BitVec 3) (r : BitVec 3) : Carrier.Statement (.xorInd m r) := fun _ => rfl
theorem Carrier.mvoi (r : BitVec 3) (imm : Word) : Carrier.Statement (.mvoi r imm) := fun _ => rfl
theorem Carrier.mvii (r : BitVec 3) (imm : Word) : Carrier.Statement (.mvii r imm) := fun _ => rfl
theorem Carrier.addi (r : BitVec 3) (imm : Word) : Carrier.Statement (.addi r imm) := fun _ => rfl
theorem Carrier.subi (r : BitVec 3) (imm : Word) : Carrier.Statement (.subi r imm) := fun _ => rfl
theorem Carrier.cmpi (r : BitVec 3) (imm : Word) : Carrier.Statement (.cmpi r imm) := fun _ => rfl
theorem Carrier.andi (r : BitVec 3) (imm : Word) : Carrier.Statement (.andi r imm) := fun _ => rfl
theorem Carrier.xori (r : BitVec 3) (imm : Word) : Carrier.Statement (.xori r imm) := fun _ => rfl
theorem Carrier.busRead (a : Word) (force : Bool) : Carrier.Statement (.busRead a force) := fun _ => rfl
theorem Carrier.busWrite (a : Word) (v : Word) : Carrier.Statement (.busWrite a v) := fun _ => rfl
theorem Carrier.bankswitch (chapter : BitVec 4) (half : BitVec 1) (v : Word) :
    Carrier.Statement (.bankswitch chapter half v) := fun _ => rfl
theorem Carrier.pageFlip (chapter : BitVec 4) (v : Word) :
    Carrier.Statement (.pageFlip chapter v) := fun _ => rfl
theorem Carrier.mapSet (copy : MapCopy) (p : BitVec 8) (v : Word) :
    Carrier.Statement (.mapSet copy p v) := fun _ => rfl
theorem Carrier.permSet (copy : MapCopy) (p : BitVec 8) (v : Word) :
    Carrier.Statement (.permSet copy p v) := fun _ => rfl
theorem Carrier.pflSet (chapter : BitVec 4) (page : BitVec 4) (v : Word) :
    Carrier.Statement (.pflSet chapter page v) := fun _ => rfl
theorem Carrier.jlpUnlock (v : Word) : Carrier.Statement (.jlpUnlock v) := fun _ => rfl
theorem Carrier.jlpLock (v : Word) : Carrier.Statement (.jlpLock v) := fun _ => rfl
theorem Carrier.jlpSgAddr (v : Word) : Carrier.Statement (.jlpSgAddr v) := fun _ => rfl
theorem Carrier.jlpSgRow (v : Word) : Carrier.Statement (.jlpSgRow v) := fun _ => rfl
theorem Carrier.jlpRamToFlash (v : Word) : Carrier.Statement (.jlpRamToFlash v) := fun _ => rfl
theorem Carrier.jlpFlashToRam (v : Word) : Carrier.Statement (.jlpFlashToRam v) := fun _ => rfl
theorem Carrier.jlpSectorErase (v : Word) : Carrier.Statement (.jlpSectorErase v) := fun _ => rfl
theorem Carrier.jlpMulSs (half : BitVec 1) (v : Word) : Carrier.Statement (.jlpMulSs half v) := fun _ => rfl
theorem Carrier.jlpMulSu (half : BitVec 1) (v : Word) : Carrier.Statement (.jlpMulSu half v) := fun _ => rfl
theorem Carrier.jlpMulUs (half : BitVec 1) (v : Word) : Carrier.Statement (.jlpMulUs half v) := fun _ => rfl
theorem Carrier.jlpMulUu (half : BitVec 1) (v : Word) : Carrier.Statement (.jlpMulUu half v) := fun _ => rfl
theorem Carrier.jlpDivSs (half : BitVec 1) (v : Word) : Carrier.Statement (.jlpDivSs half v) := fun _ => rfl
theorem Carrier.jlpDivUu (half : BitVec 1) (v : Word) : Carrier.Statement (.jlpDivUu half v) := fun _ => rfl
theorem Carrier.jlpRegWrite (i : BitVec 2) (v : Word) : Carrier.Statement (.jlpRegWrite i v) := fun _ => rfl
theorem Carrier.jlpRegRead (i : BitVec 4) (force : Bool) :
    Carrier.Statement (.jlpRegRead i force) := fun _ => rfl
theorem Carrier.jlpExtReg (i : BitVec 4) (acc : Access) : Carrier.Statement (.jlpExtReg i acc) := fun _ => rfl
theorem Carrier.jlpCrcFold (v : Word) : Carrier.Statement (.jlpCrcFold v) := fun _ => rfl
theorem Carrier.jlpCrcAccess (acc : Access) : Carrier.Statement (.jlpCrcAccess acc) := fun _ => rfl
theorem Carrier.jlpRandom (force : Bool) : Carrier.Statement (.jlpRandom force) := fun _ => rfl
theorem Carrier.decode (a : Word) : Carrier.Statement (.decode a) := fun _ => rfl
theorem Carrier.invalidate (lo : Word) (hi : Word) : Carrier.Statement (.invalidate lo hi) := fun _ => rfl
theorem Carrier.reset : Carrier.Statement .reset := fun _ => rfl
theorem Carrier.tick (n : Nat) : Carrier.Statement (.tick n) := fun _ => rfl
theorem Carrier.crcUpdateByteRight (width : Nat) (poly : Nat) (crc : Nat) (x : Byte) :
    Carrier.Statement (.crcUpdateByteRight width poly crc x) := fun _ => rfl
theorem Carrier.crcUpdateByteLeft (width : Nat) (poly : Nat) (crc : Nat) (x : Byte) :
    Carrier.Statement (.crcUpdateByteLeft width poly crc x) := fun _ => rfl
theorem Carrier.crcUpdateBlock (dir : CrcDir) (width : Nat) (poly : Nat) (crc : Nat) (xs : List Byte) :
    Carrier.Statement (.crcUpdateBlock dir width poly crc xs) := fun _ => rfl
theorem Carrier.crc16Fold (crc : Word) (v : Word) : Carrier.Statement (.crc16Fold crc v) := fun _ => rfl

end Sys2Proof.Laws
end

