-- ==== Sys2Proof/Tests/Slice0.lean ====
section
/-! SUPPORT. Tests: the smoke test of `wellFormed`, words written out from the spec's encodings, one-step vectors of
95_test_vectors.md (each test names its vector), and for every statement with hypotheses a witness that meets them. -/

namespace Sys2Proof.Machine.Tests

set_option Elab.async false

open Sys2Proof Sys2Proof.Machine

/-! ### Helpers -/

/-- The parameters of the conventions of 95_test_vectors.md, with the extended registers wired. -/
def testParams : Params where
  hookPresent := false
  extRegsWired := true
  jlpMode := .accelFlashOn
  pflSigMask := 0x0FF0
  pflPack := .specDefault
  narrowStore := .specDefault
  jlpLockValue := some none
  flashRowWords := some 4
  flashStartRow := some 0
  flashEndRow := some 8
  tickDecrement := some 1

/-- The construction state with the test parameters. -/
def base : State := { State.reset with params := testParams }

/-- A state with the accelerator on and every paragraph mapped to paragraph 0x81, readable and writable. -/
def jlpOn : State :=
  { base with
    jlpAccelOn := true
    memMapAct := Vector.replicate (2 ^ 8) 0x0081#16
    memPermAct := Vector.replicate (2 ^ 8) 0b0011#4 }

/-- A paragraph mapped and permitted. -/
def mapped (p : BitVec 8) (q : Word) (perm : BitVec 4) (s : State) : State :=
  { s with memMapAct := vecSet s.memMapAct p q, memPermAct := vecSet s.memPermAct p perm }

/-- A page-flip entry set. -/
def paged (e : BitVec 8) (q : BitVec 12) (perm : BitVec 4) (s : State) : State :=
  { s with pflMap := vecSet s.pflMap e q, pflPerm := vecSet s.pflPerm e perm }

/-- Words placed in the store. -/
def stored (l : Memory) (s : State) : State := { s with ram := l }

/-- A JLP register preset. -/
def preset (i : BitVec 4) (v : Word) (s : State) : State := setJlpRegister i v s

/-- What one step makes of one transaction; none where it stops. -/
def after (r : Request) (s : State) : Option State :=
  match step { s with requests := [r] } with
  | .next t => some t
  | .fault _ => none
  | .refused _ => none

/-- What one step of one transaction shows: `f` of the state after it. -/
def sees {α : Type} [DecidableEq α] (r : Request) (s : State) (f : State → α) (x : α) : Bool :=
  match after r s with
  | some t => f t == x
  | none => false

/-- The result registers `$9F8E`, `$9F8F`. -/
def results (s : State) : Word × Word := (vecGet s.jlpReg 14#4, vecGet s.jlpReg 15#4)

/-- A list of table words, each with what the decoder reads from it. -/
def reads (l : List (Nat × Nat × Instr)) : Bool := l.all fun p => decodeTableWord p.1 p.2.1 == some p.2.2

/-- A list of transactions, each with the row it decodes to. -/
def rows (l : List (Request × Instr)) : Bool := l.all fun p => decodeRequest p.1 == p.2

/-! ### WellFormed refuses an ill-formed term of each check -/

theorem test_wellFormed_refuses :
    [Instr.movr 3#3 3#3, .jsr 3#2 0#16, .jsre 3#2 0#16, .jsrd 3#2 0#16, .jsrRsv 3#2 0#16, .mvoInd 0#3 1#3,
      .mviInd 7#3 1#3, .addInd 0#3 1#3, .subInd 7#3 1#3, .cmpInd 0#3 1#3, .andInd 7#3 1#3, .xorInd 0#3 1#3,
      .busRead 0x9F8E#16 false, .busWrite 0x0040#16 0#16, .crcUpdateByteRight 7 1 0 0#8,
      .crcUpdateByteLeft 33 1 0 0#8, .crcUpdateBlock .left 8 256 0 []].all (fun i => !i.wellFormed) = true := by
  decide +kernel

theorem test_wellFormed_accepts :
    [Instr.movr 3#3 2#3, .jsr 2#2 0#16, .mvoInd 1#3 1#3, .xorInd 6#3 7#3, .busRead 0x9F7F#16 true,
      .busWrite 0x0060#16 0#16, .crcUpdateByteRight 8 255 0 0#8, .crcUpdateBlock .left 32 0 0 []].all
      (fun i => i.wellFormed) = true := by
  decide +kernel

/-! ### Words written out from the encodings of 42_decode_opcodes.md -/

theorem test_decode_implied : reads [(16, 0x0000, .hlt), (16, 0x0001, .sdbd), (16, 0x0002, .eis), (16, 0x0003, .dis),
    (16, 0x0005, .tci), (16, 0x0006, .clrc), (16, 0x0007, .setc)] = true := by decide +kernel

theorem test_decode_reg1 : reads [(16, 0x000B, .incr 3#3), (16, 0x0013, .decr 3#3), (16, 0x001B, .comr 3#3),
    (16, 0x0023, .negr 3#3), (16, 0x002B, .adcr 3#3), (16, 0x003F, .rswd 7#3), (16, 0x0032, .gswd 2#2),
    (16, 0x0035, .nop 1#1), (16, 0x0036, .sin 0#1)] = true := by decide +kernel

theorem test_decode_rotate : reads [(16, 0x0045, .swap 1#2 1#1), (16, 0x004D, .sll 1#2 1#1),
    (16, 0x0055, .rlc 1#2 1#1), (16, 0x005D, .sllc 1#2 1#1), (16, 0x0065, .slr 1#2 1#1), (16, 0x006D, .sar 1#2 1#1),
    (16, 0x0071, .rrc 1#2 0#1), (16, 0x007F, .sarc 3#2 1#1)] = true := by decide +kernel

theorem test_decode_reg2 : reads [(16, 0x00B9, .movr 7#3 1#3), (16, 0x00BF, .tstr 7#3), (16, 0x0080, .tstr 0#3),
    (16, 0x00C1, .addr 0#3 1#3), (16, 0x010A, .subr 1#3 2#3), (16, 0x0153, .cmpr 2#3 3#3), (16, 0x019C, .andr 3#3 4#3),
    (16, 0x01FF, .xorr 7#3 7#3)] = true := by decide +kernel

theorem test_decode_jump : reads [(48, 0x03FF_03FC_0004, .j 0xFFFF#16), (48, 0x0234_0311_0004, .je 0x1234#16),
    (48, 0x0234_0312_0004, .jd 0x1234#16), (48, 0xFFFF_FF03_0004, .jRsv 0x03FF#16),
    (48, 0x0234_0110_0004, .jsr 1#2 0x1234#16), (48, 0x0234_0011_0004, .jsre 0#2 0x1234#16),
    (48, 0x0234_0212_0004, .jsrd 2#2 0x1234#16), (48, 0x0234_0113_0004, .jsrRsv 1#2 0x1234#16)] = true := by
  decide +kernel

theorem test_decode_branch : reads [(32, 0x0006_0220, .b .backward 6#16), (32, 0x0004_0201, .bc .forward 4#16),
    (32, 0x0004_0202, .bov .forward 4#16), (32, 0x0004_0203, .bpl .forward 4#16), (32, 0x0004_0224, .beq .backward 4#16),
    (32, 0x0004_0205, .blt .forward 4#16), (32, 0x0004_0206, .ble .forward 4#16), (32, 0x0004_0207, .busc .forward 4#16),
    (32, 0x0004_0208, .nopp .forward 4#16), (32, 0x0004_0209, .bnc .forward 4#16), (32, 0x0004_020A, .bnov .forward 4#16),
    (32, 0x0004_022B, .bmi .backward 4#16), (32, 0x0004_020C, .bneq .forward 4#16), (32, 0x0004_020D, .bge .forward 4#16),
    (32, 0x0004_020E, .bgt .forward 4#16), (32, 0x0004_020F, .besc .forward 4#16),
    (32, 0x0010_021F, .bext .forward 15#4 0x0010#16)] = true := by decide +kernel

theorem test_decode_direct : reads [(32, 0x0200_0243, .mvo 3#3 0x0200#16), (32, 0xFFFF_0280, .mvi 0#3 0xFFFF#16),
    (32, 0x0200_02C3, .add 3#3 0x0200#16), (32, 0x0200_0303, .sub 3#3 0x0200#16), (32, 0x0200_0343, .cmp 3#3 0x0200#16),
    (32, 0x0200_0383, .and 3#3 0x0200#16), (32, 0x0200_03C3, .xor 3#3 0x0200#16)] = true := by decide +kernel

theorem test_decode_indirect : reads [(16, 0x0261, .mvoInd 4#3 1#3), (16, 0x02A1, .mviInd 4#3 1#3),
    (16, 0x02E1, .addInd 4#3 1#3), (16, 0x0321, .subInd 4#3 1#3), (16, 0x0361, .cmpInd 4#3 1#3),
    (16, 0x03A1, .andInd 4#3 1#3), (16, 0x03F7, .xorInd 6#3 7#3)] = true := by decide +kernel

theorem test_decode_immediate : reads [(32, 0x1234_0279, .mvoi 1#3 0x1234#16), (32, 0x1234_02B8, .mvii 0#3 0x1234#16),
    (32, 0x1234_02F9, .addi 1#3 0x1234#16), (32, 0x1234_0339, .subi 1#3 0x1234#16), (32, 0x1234_0379, .cmpi 1#3 0x1234#16),
    (32, 0x1234_03B9, .andi 1#3 0x1234#16), (32, 0x1234_03F9, .xori 1#3 0x1234#16)] = true := by decide +kernel

theorem test_decode_bus_rows : rows [(.read 0x5000#16 true, .busRead 0x5000#16 true),
    (.write 0x5000#16 1#16, .busWrite 0x5000#16 1#16), (.write 0x0055#16 0x30#16, .bankswitch 5#4 1#1 0x30#16),
    (.write 0x3FFF#16 0x0A53#16, .pageFlip 3#4 0x0A53#16), (.write 0x1150#16 1#16, .mapSet .resetDefault 0x50#8 1#16),
    (.write 0x1250#16 1#16, .permSet .active 0x50#8 1#16), (.write 0x1432#16 1#16, .pflSet 3#4 2#4 1#16)] = true := by
  decide +kernel

theorem test_decode_jlp_rows : rows [(.write 0x8033#16 0x4A5A#16, .jlpUnlock 0x4A5A#16), (.write 0x8034#16 1#16, .jlpLock 1#16),
    (.write 0x8025#16 1#16, .jlpSgAddr 1#16), (.write 0x8026#16 1#16, .jlpSgRow 1#16),
    (.write 0x802D#16 1#16, .jlpRamToFlash 1#16), (.write 0x802E#16 1#16, .jlpFlashToRam 1#16),
    (.write 0x802F#16 1#16, .jlpSectorErase 1#16), (.write 0x9F81#16 1#16, .jlpMulSs 1#1 1#16),
    (.write 0x9F82#16 1#16, .jlpMulSu 0#1 1#16), (.write 0x9F85#16 1#16, .jlpMulUs 1#1 1#16),
    (.write 0x9F86#16 1#16, .jlpMulUu 0#1 1#16), (.write 0x9F89#16 1#16, .jlpDivSs 1#1 1#16),
    (.write 0x9F8A#16 1#16, .jlpDivUu 0#1 1#16), (.write 0x9F8D#16 1#16, .jlpRegWrite 1#2 1#16),
    (.read 0x9F8F#16 false, .jlpRegRead 15#4 false), (.write 0x9F95#16 1#16, .jlpExtReg 5#4 (.write 1#16)),
    (.write 0x9FFC#16 1#16, .jlpCrcFold 1#16), (.read 0x9FFD#16 true, .jlpCrcAccess (.read true)),
    (.read 0x9FFE#16 false, .jlpRandom false)] = true := by decide +kernel

theorem test_decode_ports : rows [(.decode 1#16, .decode 1#16), (.invalidate 1#16 2#16, .invalidate 1#16 2#16),
    (.reset, .reset), (.tick 3, .tick 3), (.crcByte .right 8 1 2 3#8, .crcUpdateByteRight 8 1 2 3#8),
    (.crcByte .left 8 1 2 3#8, .crcUpdateByteLeft 8 1 2 3#8), (.crcBlock .left 8 1 2 [], .crcUpdateBlock .left 8 1 2 []),
    (.crc16Fold 1#16 2#16, .crc16Fold 1#16 2#16)] = true := by decide +kernel

/-! ### The fetch after reset -/

/-- What the binding of the record in the response is. -/
def boundTo (o : Host.Outcome State Fault Refusal) : Option (Binding × Word) :=
  match o with
  | .next t => match t.response with
    | .record r => some (r.binding, r.imm0)
    | _ => none
  | _ => none

theorem test_withFetchWord_incr :
    boundTo (step (State.reset.withFetchWord 16 0x000B)) = some (.reg1op .incr, 0#16) := by decide +kernel

theorem test_withFetchWord_jsr :
    boundTo (step (State.reset.withFetchWord 48 0x0234_0110_0004)) = some (.jsr .jsr, 0x1234#16) := by decide +kernel

/-! ### One-step vectors of 95_test_vectors.md -/

/-- The response as a record's operand fields. -/
def operands (s : State) : Option (Nat × Nat × Word × Word × Bool) :=
  match s.response with
  | .record r => some (r.len, r.op, r.imm0, r.imm1, r.sdbd)
  | _ => none

/-- Words at `$5000` on, the lookback of `$5001` first, in a readable paragraph. -/
def code (l : Memory) : State := stored l (mapped 0x50#8 0x0200#16 0b0001#4 base)

/-- V-L1-3, first case. -/
theorem test_decode_mvii_after_sdbd : sees (.decode 0x5001#16)
    (code [(0x20000, 0x0001#16), (0x20001, 0x02B8#16), (0x20002, 0x0034#16), (0x20003, 0x0012#16)]) operands
    (some (3, 2, 0x1234#16, 0#16, true)) = true := by decide +kernel

/-- V-DEC-14: the largest backward displacement. -/
theorem test_decode_branch_backward : sees (.decode 0x5001#16) (code [(0x20001, 0x0220#16), (0x20002, 0xFFFF#16)]) operands
    (some (2, 0, 0x5003#16, 0xFFFF#16, false)) = true := by decide +kernel

/-- V-DEC-1, at `$5001`. -/
theorem test_decode_weeds : sees (.decode 0x5001#16) (code [(0x20001, 0x0400#16)]) (fun t => (t.fault, t.icache))
    (some (.weeds 0x5001#16 0x0400#16), []) = true := by decide +kernel

/-- A record of `HLT` at `$5001`. -/
def hltRecord : DecodedRecord :=
  { addr := 0x5001#16, len := 1, words := [0#16], fmt := .impl1opA, op := 0, reg0 := 0, reg1 := 0, imm0 := 0#16
    imm1 := 0#16, sdbd := false, binding := .implA .hlt, lookback := 0#16 }

/-- The record cached over a zeroed paragraph. -/
def hltCached : State := { code [] with icache := [(0x5001, some hltRecord)] }

/-- V-DEC-25, at the refusal: the lookback is now SDBD. -/
theorem test_decode_stale : (after (.decode 0x5001#16) { hltCached with ram := [(0x20000, 0x0001#16)] }) = none := by
  decide +kernel

/-- V-DEC-26. -/
theorem test_invalidate_widens : sees (.invalidate 0x5003#16 0x5010#16) hltCached (·.icache) [] = true := by
  decide +kernel

/-- V-BUS-4: the last word of the store. -/
theorem test_read_last_word : sees (.read 0x50FF#16 false)
    (stored [(0x7FFFF, 0x0ABC#16)] (mapped 0x50#8 0x07FF#16 0b0001#4 base)) (·.response) (.word 0x0ABC#16) = true := by
  decide +kernel

/-- V-BUS-3. -/
theorem test_read_past_store : sees (.read 0x5000#16 false) (mapped 0x50#8 0x0800#16 0b0001#4 base) (·.fault)
    (some (.ramRange 0x80000)) = true := by decide +kernel

/-- V-BUS-8: a narrow store. -/
theorem test_write_narrow : sees (.write 0x5010#16 0xABCD#16) (mapped 0x50#8 0x0200#16 0b0111#4 base) (·.ram)
    [(0x20010, 0x00CD#16)] = true := by decide +kernel

/-- V-BUS-7: the PV shadow of a dropped write. -/
theorem test_write_dropped : sees (.write 0x5010#16 0xAAAA#16)
    (stored [(0x20010, 0x4321#16)] (mapped 0x50#8 0x0200#16 0b0001#4 base))
    (fun t => (t.ram, t.initialized, vecGet t.jlpReg 13#4)) ([(0x20010, 0x4321#16)], [], 0x4321#16) = true := by
  decide +kernel

/-- V-BUS-11: the eight-bit wrap. -/
theorem test_bankswitch_wraps : sees (.write 0x0041#16 0x00FE#16) (mapped 0x10#8 0#16 0b1000#4 base)
    (fun t => (vecGet t.memMapAct 0x11#8, vecGet t.memMapAct 0x12#8, vecGet t.memMapAct 0x17#8, vecGet t.memMapAct 0x18#8))
    (0x00FF#16, 0x0000#16, 0x0005#16, 0x0000#16) = true := by decide +kernel

/-- V-L1-7, chapter 4. -/
theorem test_page_flip_chapter_4 : sees (.write 0x4FFF#16 0x0A53#16)
    (paged 0x43#8 0x500#12 0b1011#4 (mapped 0x47#8 0x0087#16 0b0001#4 base))
    (fun t => (vecGet t.memMapAct 0x47#8, vecGet t.memMapAct 0x48#8, vecGet t.memMapAct 0x4F#8, vecGet t.memPermAct 0x4F#8,
      vecGet t.bsel 4#4)) (0x0087#16, 0x0508#16, 0x050F#16, 0b0011#4, 3#4) = true := by decide +kernel

/-- The base state with the LTO mapper. -/
def ltoBase : State := { base with featureFlags := 1#128 <<< 32 }

/-- V-BUS-17. -/
theorem test_map_set : sees (.write 0x1150#16 0x0400#16) ltoBase
    (fun t => (vecGet t.memMapRst 0x50#8, vecGet t.memMapAct 0x50#8)) (0x0400#16, 0#16) = true := by decide +kernel

/-- V-BUS-17. -/
theorem test_perm_set : sees (.write 0x1250#16 0x0001#16) ltoBase
    (fun t => (vecGet t.memPermAct 0x50#8, vecGet t.memPermRst 0x50#8)) (0b0001#4, 0#4) = true := by decide +kernel

/-- V-BUS-17. -/
theorem test_pfl_set : sees (.write 0x1432#16 0x9200#16) ltoBase
    (fun t => (vecGet t.pflMap 0x32#8, vecGet t.pflPerm 0x32#8)) (0x200#12, 0b1001#4) = true := by decide +kernel

/-- V-JLP-21, the unlock, in a mode that leaves the accelerator off at reset. -/
theorem test_unlock : sees (.write 0x8033#16 0x4A5A#16) base
    (fun t => (t.jlpAccelOn, vecGet t.memMapAct 0x90#8, vecGet t.memPermAct 0x90#8)) (true, 0x0090#16, 0b0011#4) = true := by
  decide +kernel

/-- V-JLP-21, the lock. -/
theorem test_lock : sees (.write 0x8034#16 0#16) (paged 0x90#8 0x123#12 0b1001#4 jlpOn)
    (fun t => (t.jlpAccelOn, vecGet t.memMapAct 0x9F#8, vecGet t.memPermAct 0x9F#8)) (false, 0x0132#16, 0b0001#4) = true := by
  decide +kernel

theorem test_sg_staging : (sees (.write 0x8025#16 0x8100#16) jlpOn (·.sgAddr) 0x8100#16 &&
    sees (.write 0x8026#16 3#16) jlpOn (·.sgRow) 3#16) = true := by decide +kernel

/-- The state before the command of V-L1-8. -/
def staged : State :=
  stored [(0x8100, 0x1234#16), (0x8101, 0xABCD#16), (0x8103, 0xFFFE#16)] { jlpOn with sgAddr := 0x8100#16, sgRow := 3#16 }

/-- V-L1-8, step 2: row 3, with the erased bytes unlisted. -/
theorem test_ram_to_flash : sees (.write 0x802D#16 0xC0DE#16) staged (·.flash)
    [(24, 0x34#8), (25, 0x12#8), (26, 0xCD#8), (27, 0xAB#8), (28, 0#8), (29, 0#8), (30, 0xFE#8)] = true := by
  decide +kernel

/-- V-JLP-23: the row is not erased. -/
theorem test_ram_to_flash_refused : sees (.write 0x802D#16 0xC0DE#16) { staged with flash := [(24, 0#8)] } (·.flash)
    [(24, 0#8)] = true := by decide +kernel

/-- V-L1-8, step 4. -/
theorem test_flash_to_ram : sees (.write 0x802E#16 0xDEC0#16)
    { staged with ram := [], flash := [(24, 0x34#8), (25, 0x12#8), (28, 0#8), (29, 0#8)] } (·.ram)
    [(0x8100, 0x1234#16), (0x8101, 0xFFFF#16), (0x8103, 0xFFFF#16)] = true := by decide +kernel

/-- V-JLP-26, two bytes of it. -/
theorem test_sector_erase : sees (.write 0x802F#16 0xBEEF#16)
    { staged with sgRow := 5#16, flash := [(0, 0#8), (63, 0#8), (64, 0#8)] } (·.flash) [(64, 0#8)] = true := by
  decide +kernel

/-- V-JLP-4, V-JLP-5, V-JLP-6, V-JLP-7. -/
theorem test_multiply : (sees (.write 0x9F81#16 0x7FFF#16) (preset 0#4 0x8000#16 jlpOn) results (0x8000#16, 0xC000#16) &&
    sees (.write 0x9F83#16 0xFFFF#16) (preset 2#4 0xFFFF#16 jlpOn) results (0x0001#16, 0xFFFF#16) &&
    sees (.write 0x9F84#16 0xFFFF#16) (preset 5#4 0xFFFF#16 jlpOn) results (0x0001#16, 0xFFFF#16) &&
    sees (.write 0x9F87#16 0xFFFF#16) (preset 6#4 0xFFFF#16 jlpOn) results (0x0001#16, 0xFFFE#16)) = true := by
  decide +kernel

/-- V-JLP-9, V-JLP-12, V-JLP-13, V-JLP-14. -/
theorem test_divide : (sees (.write 0x9F89#16 2#16) (preset 8#4 0xFFF9#16 jlpOn) results (0xFFFD#16, 0xFFFF#16) &&
    sees (.write 0x9F89#16 0xFFFF#16) (preset 8#4 0x8000#16 jlpOn) results (0x8000#16, 0#16) &&
    sees (.write 0x9F89#16 0#16) (preset 8#4 0x0064#16 (preset 14#4 0x1111#16 jlpOn)) results (0x1111#16, 0#16) &&
    sees (.write 0x9F8B#16 0x0010#16) (preset 10#4 0xFFFF#16 jlpOn) results (0x0FFF#16, 0x000F#16)) = true := by
  decide +kernel

/-- V-JLP-17, and the register read back. -/
theorem test_jlp_registers : (sees (.write 0x9F8C#16 0x1234#16) jlpOn (fun t => (vecGet t.jlpReg 12#4, results t))
    (0x1234#16, 0#16, 0#16) &&
    sees (.read 0x9F8C#16 false) (preset 12#4 0x1234#16 jlpOn) (·.response) (.word 0x1234#16)) = true := by decide +kernel

theorem test_extended_registers : (sees (.write 0x9F95#16 7#16) jlpOn (fun t => vecGet t.ext 5#4) 7#16 &&
    sees (.write 0x9F95#16 7#16) { jlpOn with params := { testParams with extRegsWired := false } }
      (fun t => vecGet t.ext 5#4) 0#16) = true := by decide +kernel

/-- V-JLP-28 and V-CRC-15. -/
theorem test_crc_accumulator : (sees (.write 0x9FFC#16 0x1234#16) jlpOn (·.jlpCrc) 0xE1C0#16 &&
    sees (.write 0x9FFD#16 0xFFFF#16) jlpOn (·.jlpCrc) 0xFFFF#16 &&
    sees (.read 0x9FFD#16 false) { jlpOn with jlpCrc := 0xC079#16 } (·.response) (.word 0xC079#16)) = true := by
  decide +kernel

/-- V-JLP-19: two draws, the mix and the number. -/
theorem test_random : sees (.read 0x9FFE#16 false) jlpOn (·.draws) 2 = true := by decide +kernel

/-- V-BUS-21, the second reset. -/
theorem test_reset : sees .reset { mapped 0x58#8 0x0031#16 0b1000#4 base with params := { testParams with jlpMode := .off } }
    (fun t => (vecGet t.memMapAct 0x58#8, vecGet t.memPermAct 0x58#8, t.jlpAccelOn, t.ltoIsaEnabled))
    (0#16, 0#4, false, true) = true := by decide +kernel

/-- V-L1-8, step 3. -/
theorem test_tick : sees (.tick 1000) { base with jlpSleep := 599 } (·.jlpSleep) 0 = true := by decide +kernel

/-- "123456789". -/
def digits : List Byte := [0x31#8, 0x32#8, 0x33#8, 0x34#8, 0x35#8, 0x36#8, 0x37#8, 0x38#8, 0x39#8]

/-- V-CRC-6 and V-CRC-18. -/
theorem test_crc_byte_right : (sees (.crcByte .right 16 0xAD52 0x1234 0x56#8) base (·.response) (.crc 0x0872) &&
    sees (.crcByte .right 16 0xAD52 0x1FFFF 0#8) base (·.response) (.crc 0x4013)) = true := by decide +kernel

/-- V-CRC-14. -/
theorem test_crc_byte_left : sees (.crcByte .left 16 0x1021 0xFFFF 0#8) base (·.response) (.crc 0xE1F0) = true := by
  decide +kernel

/-- V-CRC-7, V-CRC-13. -/
theorem test_crc_block : (sees (.crcBlock .right 16 0xAD52 0 digits) base (·.response) (.crc 0xB6AB) &&
    sees (.crcBlock .left 8 0x07 0 digits) base (·.response) (.crc 0xF4)) = true := by decide +kernel

/-- V-CRC-15. -/
theorem test_crc16_fold : sees (.crc16Fold 0x0000#16 0x0001#16) base (·.response) (.crc 0xEFCA) = true := by decide +kernel

/-- The next state of an outcome. -/
def next? (o : Host.Outcome State Fault Refusal) : Option State :=
  match o with
  | .next t => some t
  | .fault _ => none
  | .refused _ => none

theorem exists_next {o : Host.Outcome State Fault Refusal} (h : (next? o).isSome = true) : ∃ t, o = .next t := by
  cases o with
  | next t => exact ⟨t, rfl⟩
  | fault r => cases h
  | refused r => cases h

/-! ### Witnesses: for each statement, states and operands that meet its hypotheses -/

theorem witness_DecodeInvertsEncode :
    (Instr.mvii 7#3 0xFFFF#16).wellFormed = true ∧
      encodeWords true (.mvii 7#3 0xFFFF#16) = some [0x02BF#16, 0x00FF#16, 0x00FF#16] := by decide +kernel

theorem witness_DecodedInstructionEncodesBack :
    decodeWords false [0xFFFF#16 &&& 0x0004#16, 0xFF03#16, 0xFFFF#16] = .ok (.jRsv 0x03FF#16, []) := rfl

theorem witness_TransactionRowsRoundTrip :
    (Instr.pflSet 15#4 15#4 0#16).wellFormed = true ∧
      encodeRequest (.pflSet 15#4 15#4 0#16) = some (.write 0x14FF#16 0#16) := by decide +kernel

/-- The last word with no bit above the opcode, and the first with one. -/
theorem witness_DecodingIsTotal :
    (0x03FF#16).extractLsb' 10 6 = 0#6 ∧ (0x0400#16).extractLsb' 10 6 ≠ 0#6 := by decide +kernel

theorem witness_ExtractionTable : (0x03FF#16).extractLsb' 10 6 = 0#6 := by decide +kernel

theorem witness_BindingTable :
    (recordOfWords ⟨0x5000#16, 0x0001#16, [0x02B8#16, 0x0034#16, 0x0012#16]⟩).map (·.imm0) = some 0x1234#16 := by
  decide +kernel

theorem witness_ImpliedInstructionsComplete : base.fault = none := rfl
theorem witness_OneRegisterInstructionsComplete : base.fault = none := rfl
theorem witness_TwoRegisterInstructionsComplete : base.fault = none := rfl
theorem witness_JumpInstructionsComplete : base.fault = none := rfl
theorem witness_BranchInstructionsComplete : base.fault = none := rfl
theorem witness_MemoryInstructionsComplete : base.fault = none := rfl

theorem witness_ReservedBindingsAreRefused :
    ({ hltRecord with binding := .jsr .jRsv } : DecodedRecord).binding = .jsr .jRsv ∧
      hltRecord.binding ≠ .jsr .jRsv ∧ hltRecord.binding ≠ .jsr .jsrRsv := by decide +kernel

theorem witness_StepRunsOldestTransaction :
    ({ base with requests := [.reset] } : State).requests = .reset :: [] := rfl

theorem witness_LatchedFaultStopsEverything :
    ({ base with fault := some (.ramRange 0x80000) } : State).fault = some (.ramRange 0x80000) := rfl

/-- A state that asks for a decode of `$5001`, where INCR R3 stands. -/
def askDecode : State := { code [(0x20001, 0x000B#16)] with requests := [.decode 0x5001#16] }

/-- What a read gives where its paragraph is readable. -/
theorem read_code (s : State) (a : Word) (hs : s.jlpSleep = 0) (hw : fixedUnmapped a = false) (hj : s.jlpAccelOn = false)
    (hp : permR (activePerm s a) = true) (hr : phys s a < ramWords) {w : Word} (hv : ramWord s (phys s a) = w) :
    busRead a false s = .ok w (mixRng a s) := by
  subst hv
  rw [busRead_exits, if_neg (by omega), if_neg (by simp [hw]), if_neg (by simp [hj]), if_pos (by simp [hp]),
    ramRead, if_pos hr]
  rfl

theorem witness_StepRunsDecodedInstruction :
    ∃ s s1 s2 s3 : State, ∃ w1 lookback : Word, ∃ ws : List Word, ∃ i : Instr,
      s.requests = .decode 0x5001#16 :: [] ∧ s.fault = none ∧ cached s 0x5001#16 = none ∧
      busRead 0x5001#16 false { s with requests := [] } = .ok w1 s1 ∧ isWeeds w1 = false ∧
      busRead 0x5000#16 false s1 = .ok lookback s2 ∧
      fetchRest 0x5001#16 (instrLength (prevIsSdbd lookback) w1) s2 = .ok ws s3 ∧
      decodeWords (prevIsSdbd lookback) (w1 :: ws) = .ok (i, []) := by
  refine ⟨askDecode, mixRng 0x5001#16 { askDecode with requests := [] },
    mixRng 0x5000#16 (mixRng 0x5001#16 { askDecode with requests := [] }), _, 0x000B#16, 0x0000#16, [], .incr 3#3,
    rfl, rfl, rfl, ?_, by decide, ?_, rfl, rfl⟩
  · exact read_code { askDecode with requests := [] } 0x5001#16 rfl (by decide) rfl (by decide +kernel) (by decide +kernel)
      (by decide +kernel)
  · exact read_code (mixRng 0x5001#16 { askDecode with requests := [] }) 0x5000#16 rfl (by decide) rfl
      (by decide +kernel) (by decide +kernel) (by decide +kernel)

theorem witness_DecodeMissCachesRecord :
    askDecode.fault = none ∧ cached askDecode 0x5001#16 = none ∧ peek askDecode 0x5001#16 = some 0x000B#16 ∧
      peek askDecode 0x5000#16 = some 0#16 ∧ peek askDecode 0x5002#16 = some 0#16 ∧
      peek askDecode 0x5003#16 = some 0#16 ∧ (0x000B#16).extractLsb' 10 6 = 0#6 := by decide +kernel

/-- The record agrees with the bus in one state, and not in the other. -/
theorem witness_DecodeHitIsCheckedAgainstBus :
    hltCached.fault = none ∧ cached hltCached 0x5001#16 = some hltRecord ∧ freshRecord 0x5001#16 hltRecord hltCached = true ∧
      freshRecord 0x5001#16 hltRecord { hltCached with ram := [(0x20001, 0x0001#16)] } = false := by decide +kernel

theorem witness_WeedsWordFaultsOrGoesToHook :
    ∃ s1, busRead 0x5000#16 false base = .ok 0xFFFF#16 s1 ∧ base.fault = none ∧ cached base 0x5000#16 = none ∧
      (0xFFFF#16).extractLsb' 10 6 ≠ 0#6 := by
  refine ⟨mixRng 0x5000#16 base, ?_, rfl, rfl, by decide⟩
  rw [busRead_exits, if_neg (by decide +kernel), if_neg (by decide +kernel), if_neg (by decide +kernel),
    if_neg (by decide +kernel)]
  rfl

theorem witness_DecodeDuringStall :
    ({ hltCached with jlpSleep := 1 } : State).fault = none ∧ 0 < ({ hltCached with jlpSleep := 1 } : State).jlpSleep ∧
      cached { hltCached with jlpSleep := 1 } 0x5000#16 = none ∧
      cached { hltCached with jlpSleep := 1 } 0x5001#16 = some hltRecord := by decide +kernel

/-- The ends of the fixed windows, and a stalled state. -/
theorem witness_StalledAndFixedReads :
    base.fault = none ∧ base.jlpSleep = 0 ∧ 0 < ({ base with jlpSleep := 1 } : State).jlpSleep ∧
      [0x0000#16, 0x04FF#16, 0x1000#16, 0x1FFF#16, 0x3000#16, 0x47FF#16].all fixedUnmapped = true ∧
      [0x0500#16, 0x0FFF#16, 0x2000#16, 0x2FFF#16, 0x4800#16, 0xFFFF#16].all (fun a => !fixedUnmapped a) = true := by
  decide +kernel

theorem witness_TranslatedReads :
    base.quiet ∧ fixedUnmapped 0xFFFF#16 = false ∧ (base.jlpAccelOn && jlpReadWindow 0xFFFF#16) = false :=
  ⟨⟨rfl, rfl⟩, by decide +kernel, by decide +kernel⟩

theorem jlpOn_quiet : jlpOn.quiet := ⟨rfl, rfl⟩

theorem jlpOn_on : jlpOn.jlpAccelOn = true := by decide +kernel

/-- The shadow of a write to an address whose paragraph lies inside the store raises no fault. -/
theorem shadow_inside {s : State} {a : Word} (h : phys s a < ramWords) : shadowOk s a := fun _ _ => h

/-- No write of `jlpOn` faults in its shadow: every paragraph is mapped to one inside the store. -/
theorem jlpOn_shadow (a : Word) : shadowOk jlpOn a := fun _ _ => by
  have h : vecGet jlpOn.memMapAct (paragraphOf a) = 0x0081#16 := by
    simp only [vecGet, jlpOn, Vector.getElem_replicate]
  have := (offsetOf a).isLt
  simp only [phys, activeMap, h, ramWords, BitVec.reduceToNat]
  omega

/-- The ends of the ranges of the read window with no register. -/
theorem unregistered_reads : ∀ a ∈ ([0x8000#16, 0x803F#16, 0x9FA0#16, 0x9FFC#16, 0x9FFF#16] : List Word),
    0x8000 ≤ a.toNat ∧ a.toNat ≤ 0x803F ∨ 0x9FA0 ≤ a.toNat ∧ a.toNat ≤ 0x9FFC ∨ a = 0x9FFF#16 := by
  intro a h
  simp only [List.mem_cons, List.not_mem_nil, or_false] at h
  rcases h with rfl | rfl | rfl | rfl | rfl <;> decide

/-- Both values of the wiring. -/
theorem witness_JlpRegisterReads :
    jlpOn.quiet ∧ jlpOn.jlpAccelOn = true ∧ jlpOn.params.extRegsWired = true ∧
      ({ jlpOn with params := { testParams with extRegsWired := false } } : State).params.extRegsWired = false :=
  ⟨jlpOn_quiet, jlpOn_on, rfl, rfl⟩

theorem witness_PeekPredictsRead : base.fault = none ∧ peek base 0xFFFF#16 = some 0xFFFF#16 := by decide +kernel

theorem witness_StalledWriteIsDropped :
    ({ base with jlpSleep := 1 } : State).fault = none ∧ 0 < ({ base with jlpSleep := 1 } : State).jlpSleep := by decide

/-- The first paragraph past the store, readable. -/
theorem witness_PvShadowFaultsFirst :
    (mapped 0x50#8 0x0800#16 0b0001#4 base).quiet ∧ (0x5000#16 : Word) ≠ 0x9F8D#16 ∧
      permR (activePerm (mapped 0x50#8 0x0800#16 0b0001#4 base) 0x5000#16) = true ∧
      0x80000 ≤ phys (mapped 0x50#8 0x0800#16 0b0001#4 base) 0x5000#16 ∧
      permR (activePerm (mapped 0x50#8 0x0800#16 0b1100#4 base) 0x5000#16) = false ∧
      permW (activePerm (mapped 0x50#8 0x0800#16 0b1100#4 base) 0x5000#16) = false :=
  ⟨⟨rfl, rfl⟩, by decide, by decide +kernel, by decide +kernel, by decide +kernel, by decide +kernel⟩

/-- A write that completes, to an address that wraps its cover. -/
theorem witness_WriteResetsThreeCacheEntries :
    ((after (.write 0x0000#16 1#16) base).map (·.fault)) = some none := by decide +kernel

/-- The last half-chapter, whose first paragraph has B. -/
theorem witness_BankswitchRemapsHalfChapter :
    base.quiet ∧ shadowOk base (bankswitchAddr 15#4 1#1) ∧
      permB (activePerm (mapped 0xF8#8 0#16 0b1000#4 base) 0xF800#16) = true :=
  ⟨⟨rfl, rfl⟩, shadow_inside (by decide +kernel), by decide +kernel⟩

/-- A writable paragraph whose store is the last word of the store, and one that is not writable. -/
theorem witness_RamStoreWritesOneWord :
    ∃ s : State, s.quiet ∧ shadowOk s 0x50FF#16 ∧ ¬(0x0040 ≤ (0x50FF#16).toNat ∧ (0x50FF#16).toNat ≤ 0x005F) ∧
      (s.jlpAccelOn && jlpWriteWindow 0x50FF#16) = false ∧ unlockMatches 0x50FF#16 1#16 s = false ∧
      pageFlipMatches 0x50FF#16 1#16 s = false ∧ mapperMatches 0x50FF#16 s = false ∧
      permW (activePerm s 0x50FF#16) = true ∧ phys s 0x50FF#16 = 0x7FFFF ∧ permW (activePerm s 0x51FF#16) = false :=
  ⟨mapped 0x50#8 0x07FF#16 0b0111#4 base, ⟨rfl, rfl⟩, shadow_inside (by decide +kernel), by decide, by decide +kernel,
    by decide +kernel, by decide +kernel, by decide +kernel, by decide +kernel, by decide +kernel, by decide +kernel⟩

/-- Chapter 4, whose lower half stays; and chapter 9 with the accelerator off. -/
theorem witness_PageFlipInstallsPage :
    base.quiet ∧ shadowOk base (chapterEnd 4#4) ∧ (0xFA5F#16 : Word) &&& base.params.pflSigMask = 0x0A50#16 ∧
      ¬((9#4 : BitVec 4) = 9#4 ∧ base.jlpAccelOn = true) :=
  ⟨⟨rfl, rfl⟩, shadow_inside (by decide +kernel), by decide, by decide⟩

/-- The first and the last address of each mapper range. -/
theorem witness_MapperSetsOneEntry :
    ltoBase.quiet ∧ ltoBase.featureFlags.getLsbD 32 = true ∧ shadowOk ltoBase (mapSetAddr .resetDefault 0xFF#8) ∧
      permW (activePerm ltoBase (mapSetAddr .resetDefault 0xFF#8)) = false ∧ shadowOk ltoBase (permSetAddr .active 0#8) ∧
      permW (activePerm ltoBase (permSetAddr .active 0#8)) = false ∧ shadowOk ltoBase (pflSetAddr 15#4 15#4) ∧
      permW (activePerm ltoBase (pflSetAddr 15#4 15#4)) = false ∧ ltoBase.params.pflPack = .specDefault :=
  ⟨⟨rfl, rfl⟩, by decide, shadow_inside (by decide +kernel), by decide +kernel, shadow_inside (by decide +kernel),
    by decide +kernel, shadow_inside (by decide +kernel), by decide +kernel, rfl⟩

/-- The mapper off, and the mapper closed by a writable paragraph. -/
theorem witness_ClosedMapperChangesNoTable :
    0x1000 ≤ (0x14FF#16).toNat ∧ (0x14FF#16).toNat ≤ 0x14FF ∧ base.featureFlags.getLsbD 32 = false ∧
      permW (activePerm (mapped 0x14#8 0x0300#16 0b0010#4 ltoBase) 0x14FF#16) = true ∧
      ((after (.write 0x14FF#16 1#16) base).map (·.fault)) = some none := by decide +kernel

theorem witness_UnlockTurnsAcceleratorOn :
    base.quiet ∧ base.jlpAccelOn = false ∧ base.params.jlpMode ≠ .disabled ∧ shadowOk base 0x8033#16 :=
  ⟨⟨rfl, rfl⟩, rfl, by decide, shadow_inside (by decide +kernel)⟩

/-- The three shapes of the lock value. -/
theorem witness_LockTurnsAcceleratorOff :
    jlpOn.quiet ∧ jlpOn.jlpAccelOn = true ∧ shadowOk jlpOn 0x8034#16 ∧ jlpOn.params.jlpLockValue = some none ∧
      ({ testParams with jlpLockValue := none } : Params).jlpLockValue = none ∧
      ({ testParams with jlpLockValue := some (some 5#16) } : Params).jlpLockValue = some (some 5#16) :=
  ⟨jlpOn_quiet, jlpOn_on, shadow_inside (by decide +kernel), rfl, rfl, rfl⟩

/-- Both registers of the first and the last multiply pair. -/
theorem witness_MultiplyPairsGiveProduct :
    jlpOn.quiet ∧ jlpOn.jlpAccelOn = true ∧ shadowOk jlpOn 0x9F80#16 ∧ shadowOk jlpOn 0x9F87#16 :=
  ⟨jlpOn_quiet, jlpOn_on, shadow_inside (by decide +kernel), shadow_inside (by decide +kernel)⟩

/-- Both registers of the divide pairs. -/
theorem witness_DividePairsGiveQuotientAndRemainder :
    jlpOn.quiet ∧ jlpOn.jlpAccelOn = true ∧ shadowOk jlpOn 0x9F88#16 ∧ shadowOk jlpOn 0x9F8B#16 :=
  ⟨jlpOn_quiet, jlpOn_on, shadow_inside (by decide +kernel), shadow_inside (by decide +kernel)⟩

theorem witness_SignedDivisionTruncates : (-7 : Int) ≤ 0 ∧ (2 : Int) ≠ 0 ∧ sdivRemainder (-7) 2 = -1 := by decide

/-- The ends of the ranges of the write window with no register. -/
theorem unregistered_writes : ∀ a ∈ ([0x8000#16, 0x803F#16, 0x9FA0#16, 0x9FFB#16, 0x9FFE#16] : List Word),
    (0x8000 ≤ a.toNat ∧ a.toNat ≤ 0x803F ∨ 0x9FA0 ≤ a.toNat ∧ a.toNat ≤ 0x9FFB ∨ a = 0x9FFE#16) ∧
      a ∉ [0x8025#16, 0x8026#16, 0x802D#16, 0x802E#16, 0x802F#16, 0x8033#16, 0x8034#16] := by
  intro a h
  simp only [List.mem_cons, List.not_mem_nil, or_false] at h
  rcases h with rfl | rfl | rfl | rfl | rfl <;> decide

theorem witness_JlpRegisterWrites : jlpOn.quiet ∧ jlpOn.jlpAccelOn = true ∧ ∀ a, shadowOk jlpOn a :=
  ⟨jlpOn_quiet, jlpOn_on, jlpOn_shadow⟩

theorem staged_on : staged.jlpAccelOn = true := by decide +kernel

theorem staged_inside : ∀ j < 4, phys staged (staged.sgAddr + BitVec.ofNat 16 j) < 0x80000 := by decide +kernel

theorem staged_distinct : ∀ j < 4, ∀ k < 4, phys staged (staged.sgAddr + BitVec.ofNat 16 j) =
    phys staged (staged.sgAddr + BitVec.ofNat 16 k) → j = k := by decide +kernel

/-- A staged copy inside the bounds into an erased row; row 8 is the first outside them. -/
theorem witness_RamToFlashWritesErasedRow :
    staged.quiet ∧ staged.jlpAccelOn = true ∧ shadowOk staged 0x802D#16 ∧ staged.params.jlpMode = .accelFlashOn ∧
      staged.params.flashRowWords = some 4 ∧ staged.params.flashStartRow = some 0 ∧ staged.params.flashEndRow = some 8 ∧
      (∀ j < 4, phys staged (staged.sgAddr + BitVec.ofNat 16 j) < 0x80000) ∧ copyValid staged = .ok true ∧
      copyValid { staged with sgRow := 8#16 } = .ok false :=
  ⟨⟨rfl, rfl⟩, staged_on, shadow_inside (by decide +kernel), rfl, rfl, rfl, rfl, staged_inside, rfl, rfl⟩

/-- The last staged area inside the window ends at `$9F7F`; the next one is outside. -/
theorem witness_FlashToRamRestoresWords :
    staged.quiet ∧ staged.jlpAccelOn = true ∧ shadowOk staged 0x802E#16 ∧
      (∀ j < 4, phys staged (staged.sgAddr + BitVec.ofNat 16 j) < 0x80000) ∧
      (∀ j < 4, ∀ k < 4, phys staged (staged.sgAddr + BitVec.ofNat 16 j) =
        phys staged (staged.sgAddr + BitVec.ofNat 16 k) → j = k) ∧
      copyValid { staged with sgAddr := 0x9F7C#16 } = .ok true ∧ copyValid { staged with sgAddr := 0x9F7D#16 } = .ok false :=
  ⟨⟨rfl, rfl⟩, staged_on, shadow_inside (by decide +kernel), staged_inside, staged_distinct, rfl, rfl⟩

/-- The last row inside the bounds, and the first outside them. -/
theorem witness_SectorEraseSetsSector :
    staged.quiet ∧ staged.jlpAccelOn = true ∧ shadowOk staged 0x802F#16 ∧ staged.params.jlpMode = .accelFlashOn ∧
      rowOk testParams 7#16 = .ok true ∧ rowOk testParams 8#16 = .ok false :=
  ⟨⟨rfl, rfl⟩, staged_on, shadow_inside (by decide +kernel), rfl, rfl, rfl⟩

/-- What a save-game command is refused for in a state; none where it is not refused. -/
def missing (i : Instr) (s : State) : Option OpenParam :=
  match exec i s with
  | .refused (.parameterOpen p) => some p
  | _ => none

/-- A staged copy with the three flash parameters as given. -/
def geometry (addr : Word) (start stop words : Option Nat) : State :=
  { staged with
    sgAddr := addr, params := { testParams with flashStartRow := start, flashEndRow := stop, flashRowWords := words } }

/-- Each parameter alone missing; none is asked for where the row or the address fails whatever it is. -/
theorem test_missing_parameters :
    missing (.jlpRamToFlash 0xC0DE#16) (geometry 0x9F80#16 none (some 8) (some 0)) = some .flashStartRow ∧
      missing (.jlpFlashToRam 0xDEC0#16) (geometry 0x8040#16 (some 0) none (some 4)) = some .flashEndRow ∧
      missing (.jlpRamToFlash 0xC0DE#16) (geometry 0x9F80#16 (some 0) (some 8) none) = some .flashRowWords ∧
      missing (.jlpRamToFlash 0xC0DE#16) (geometry 0x9F81#16 (some 0) (some 8) none) = none ∧
      missing (.jlpRamToFlash 0xC0DE#16) (geometry 0x8040#16 none (some 0) none) = none ∧
      missing (.jlpSectorErase 0xBEEF#16) (geometry 0x9F81#16 (some 0) (some 8) none) = some .flashRowWords := by
  decide +kernel

/-- The hypotheses with no flash and, with flash, with each parameter missing at the ends of the address range. -/
theorem witness_CommandsWithoutFlashMoveNothing :
    jlpOn.quiet ∧ jlpOn.jlpAccelOn = true ∧ (∀ a, shadowOk jlpOn a) ∧
      ({ testParams with jlpMode := .accelOn } : Params).jlpMode ≠ .accelFlashOn ∧
      ∀ s ∈ [geometry 0x8040#16 none none none, geometry 0x9F80#16 none (some 4) (some 0),
          geometry 0x8040#16 (some 3) none none, geometry 0x9F80#16 (some 3) (some 4) none],
        s.quiet ∧ s.jlpAccelOn = true ∧ s.params.jlpMode = .accelFlashOn ∧ (∀ a, shadowOk s a) ∧
          s.sgRow.toNat = 3 ∧ 0x8040 ≤ s.sgAddr.toNat ∧ s.sgAddr.toNat ≤ 0x9F80 := by
  refine ⟨jlpOn_quiet, jlpOn_on, jlpOn_shadow, by decide, fun s h => ?_⟩
  simp only [List.mem_cons, List.not_mem_nil, or_false] at h
  rcases h with rfl | rfl | rfl | rfl <;>
    exact ⟨⟨rfl, rfl⟩, staged_on, rfl, jlpOn_shadow, rfl, by decide +kernel, by decide +kernel⟩

theorem witness_WrongMagicDoesNothing :
    jlpOn.quiet ∧ jlpOn.jlpAccelOn = true ∧ (0x1234#16 : Word) ≠ 0xC0DE#16 ∧ (0x1234#16 : Word) ≠ 0xDEC0#16 ∧
      (0x1234#16 : Word) ≠ 0xBEEF#16 ∧ shadowOk jlpOn 0x802D#16 ∧ shadowOk jlpOn 0x802E#16 ∧ shadowOk jlpOn 0x802F#16 :=
  ⟨jlpOn_quiet, jlpOn_on, by decide, by decide, by decide, shadow_inside (by decide +kernel),
    shadow_inside (by decide +kernel), shadow_inside (by decide +kernel)⟩

/-- The two commands of the round trip complete: the second in the state the first leaves, the latency run down. -/
theorem witness_SaveGameRoundTripRestoresWords :
    ∃ t v : State, staged.quiet ∧ staged.jlpAccelOn = true ∧ copyValid staged = .ok true ∧
      (∀ j < 8, flashByte staged (staged.sgRow.toNat * 8 + j) = 0xFF#8) ∧
      exec (.jlpRamToFlash 0xC0DE#16) staged = .next t ∧ t.fault = none ∧
      exec (.jlpFlashToRam 0xDEC0#16) { staged with ram := [], flash := t.flash } = .next v ∧ v.fault = none ∧
      v.ram = staged.ram := by
  have first : ∃ t, exec (.jlpRamToFlash 0xC0DE#16) staged = .next t :=
    exists_next (by decide +kernel)
  obtain ⟨t, ht⟩ := first
  have hf : (next? (exec (.jlpRamToFlash 0xC0DE#16) staged)).map (fun u => (u.fault, u.flash)) =
      some (none, [(24, 0x34#8), (25, 0x12#8), (26, 0xCD#8), (27, 0xAB#8), (28, 0#8), (29, 0#8), (30, 0xFE#8)]) := by
    decide +kernel
  rw [ht] at hf
  simp only [next?, Option.map_some, Option.some.injEq, Prod.mk.injEq] at hf
  have second : ∃ v, exec (.jlpFlashToRam 0xDEC0#16) { staged with ram := [], flash := t.flash } = .next v := by
    rw [hf.2]; exact exists_next (by decide +kernel)
  obtain ⟨v, hv⟩ := second
  have hg : (next? (exec (.jlpFlashToRam 0xDEC0#16) { staged with ram := [], flash := t.flash })).map
      (fun u => (u.fault, u.ram)) =
      some (none, [(0x8100, 0x1234#16), (0x8101, 0xABCD#16), (0x8103, 0xFFFE#16)]) := by
    rw [hf.2]; decide +kernel
  rw [hv] at hg
  simp only [next?, Option.map_some, Option.some.injEq, Prod.mk.injEq] at hg
  exact ⟨t, v, ⟨rfl, rfl⟩, staged_on, rfl, by decide +kernel, ht, hf.1, hv, hg.1, hg.2⟩

/-- The ends of the admitted widths. -/
theorem witness_CrcUpdatesComplete :
    base.fault = none ∧ 8 ≤ 8 ∧ 8 ≤ 32 ∧ 255 < 2 ^ 8 ∧ 32 ≤ 32 ∧ 0xEDB88320 < 2 ^ 32 := by decide

/-- The widths next to the admitted ones, and the first polynomial too wide. -/
theorem witness_UnadmittedCrcIsRefused :
    base.fault = none ∧ ¬(8 ≤ 7 ∧ 7 ≤ 32 ∧ 1 < 2 ^ 7) ∧ ¬(8 ≤ 33 ∧ 33 ≤ 32 ∧ 1 < 2 ^ 33) ∧
      ¬(8 ≤ 8 ∧ 8 ≤ 32 ∧ 256 < 2 ^ 8) := by decide

theorem witness_WordFoldIsSixteenShifts : base.fault = none := rfl

theorem witness_TableDrivenCrcIsBitSerial : 8 ≤ 32 ∧ 32 ≤ 32 := by decide

theorem witness_ResetInstallsResetTables : base.fault = none := rfl

/-- The decrement supplied, and not supplied. -/
theorem witness_TickAndInvalidate :
    base.fault = none ∧ base.params.tickDecrement = some 1 ∧
      ({ testParams with tickDecrement := none } : Params).tickDecrement = none := ⟨rfl, rfl, rfl⟩

/-- A state that asks for a tick, at the longest latency. -/
def ticking : State := { base with requests := [.tick 1], jlpSleep := 999 }

theorem ticking_tables : ticking.TablesWf :=
  ⟨wf_nil _ _, wf_nil _ _, wf_nil _ _, ⟨List.Pairwise.nil, fun e he => by cases he⟩⟩

theorem witness_StepKeepsInvariant :
    ∃ s t : State, s.Inv ∧ s.requests = [.tick 1] ∧ step s = .next t :=
  ⟨ticking, _, ⟨ticking_tables, (fun e he => by cases he), by decide, by decide, rfl⟩, rfl, rfl⟩

theorem witness_ConfigurationIsKept : ∃ s t : State, s.requests = [.tick 1] ∧ step s = .next t :=
  ⟨ticking, _, rfl, rfl⟩

theorem witness_RememberedPagesHaveTwoWriters : ∃ s t : State, s.requests = [.reset] ∧ step s = .next t :=
  ⟨{ base with requests := [.reset] }, _, rfl, rfl⟩

end Sys2Proof.Machine.Tests
end

