-- ==== Sys2Proof/Proofs/Classification.lean ====
section
/-! The classification of the opcodes (30_encoding.md R101, R102). A pattern of R102 fixes fields of the opcode, so
the priority list and the range table are two chains of conditions on the same number; the counts add up over ranges
on which the classification is constant. -/

namespace Sys2Proof

/-! ### The priority list -/

@[simp] theorem firstMatch_nil (w : BitVec 10) : firstMatch [] w = none := rfl

@[simp] theorem firstMatch_cons (r : PatternRow) (rows : List PatternRow) (w : BitVec 10) :
    firstMatch (r :: rows) w = if w &&& r.mask = r.value then some r.format else firstMatch rows w := by
  by_cases h : w &&& r.mask = r.value <;> simp [firstMatch, h]

/-- A pattern that fixes the bits from lo up, to the number c, and leaves the lower bits open. -/
def prefixRow (lo : Nat) (c : BitVec (10 - lo)) (f : Format) : PatternRow :=
  ⟨BitVec.allOnes 10 <<< lo, c.setWidth 10 <<< lo, f⟩

/-- A pattern of the memory formats: bit 9 is one and bits 5 to 3 are the mode. -/
def modeRow (mode : BitVec 3) (f : Format) : PatternRow :=
  ⟨0b1000111000#10, 0b1000000000#10 ||| mode.setWidth 10 <<< 3, f⟩

theorem formatPatterns_eq : formatPatterns =
    [prefixRow 0 4#10 .jsr, prefixRow 2 0#8 .impl1opA, prefixRow 3 0#7 .impl1opB, prefixRow 2 12#8 .gswd,
      prefixRow 2 13#8 .nopSin, prefixRow 6 0#4 .reg1op, prefixRow 6 1#4 .rot1op, prefixRow 9 0#1 .reg2op,
      prefixRow 6 8#4 .condBr, modeRow 0#3 .dir2op, modeRow 7#3 .imm2op, prefixRow 9 1#1 .ind2op] := by
  decide

theorem toNat_mul_two_pow_lt {n lo : Nat} (c : BitVec (n - lo)) : c.toNat * 2 ^ lo < 2 ^ n := by
  obtain h | h := le_total lo n
  · calc c.toNat * 2 ^ lo < 2 ^ (n - lo) * 2 ^ lo := Nat.mul_lt_mul_of_pos_right c.isLt (Nat.two_pow_pos lo)
      _ = 2 ^ n := by rw [← pow_add, Nat.sub_add_cancel h]
  · have hpow : 2 ^ (n - lo) = 1 := by rw [Nat.sub_eq_zero_of_le h, pow_zero]
    have hzero : c.toNat = 0 := Nat.lt_one_iff.mp (lt_of_lt_of_eq c.isLt hpow)
    simp [hzero]

/-- A prefix pattern matches the opcodes whose high part is its number. -/
theorem and_prefixMask_eq_iff (w : BitVec 10) (lo : Nat) (c : BitVec (10 - lo)) :
    w &&& (BitVec.allOnes 10 <<< lo) = c.setWidth 10 <<< lo ↔ w.toNat / 2 ^ lo = c.toNat := by
  have hw : w.toNat / 2 ^ lo * 2 ^ lo < 2 ^ 10 := lt_of_le_of_lt (Nat.div_mul_le_self _ _) w.isLt
  have hc : c.toNat * 2 ^ lo < 2 ^ 10 := toNat_mul_two_pow_lt c
  rw [← BitVec.shiftLeft_ushiftRight, ← BitVec.toNat_inj, BitVec.toNat_shiftLeft, BitVec.toNat_ushiftRight,
    BitVec.toNat_shiftLeft, BitVec.toNat_setWidth_of_le (Nat.sub_le 10 lo), Nat.shiftRight_eq_div_pow,
    Nat.shiftLeft_eq, Nat.shiftLeft_eq, Nat.mod_eq_of_lt hw, Nat.mod_eq_of_lt hc]
  exact Nat.mul_left_inj (Nat.two_pow_pos lo).ne'

/-- A mode pattern matches the opcodes of the upper half that have its mode. -/
theorem and_modeMask_eq_iff (w : BitVec 10) (mode : BitVec 3) :
    w &&& 0b1000111000#10 = 0b1000000000#10 ||| mode.setWidth 10 <<< 3 ↔
      w.toNat / 2 ^ 9 = 1 ∧ w.extractLsb' 3 3 = mode := by
  have top : w.toNat / 2 ^ 9 = 1 ↔ w.getLsbD 9 = true := by
    rw [BitVec.getLsbD, Nat.testBit_eq_decide_div_mod_eq, decide_eq_true_iff]
    omega
  rw [top, BitVec.eq_of_getLsbD_eq_iff, BitVec.eq_of_getLsbD_eq_iff]
  simp only [Nat.forall_lt_succ_right]
  simp [and_assoc, and_comm]

/-- The mode bits of an opcode, as a number. -/
theorem extractMode_eq_iff (w : BitVec 10) (c : Nat) :
    w.extractLsb' 3 3 = BitVec.ofNat 3 c ↔ w.toNat / 8 % 8 = c % 8 := by
  rw [← BitVec.toNat_inj, BitVec.extractLsb'_toNat, BitVec.toNat_ofNat, Nat.shiftRight_eq_div_pow]

/-- The priority list as a chain of conditions on the number of the opcode. -/
theorem firstMatch_formatPatterns_eq_ite (w : BitVec 10) : firstMatch formatPatterns w =
    if w.toNat / 2 ^ 0 = 4 then some .jsr
    else if w.toNat / 2 ^ 2 = 0 then some .impl1opA
    else if w.toNat / 2 ^ 3 = 0 then some .impl1opB
    else if w.toNat / 2 ^ 2 = 12 then some .gswd
    else if w.toNat / 2 ^ 2 = 13 then some .nopSin
    else if w.toNat / 2 ^ 6 = 0 then some .reg1op
    else if w.toNat / 2 ^ 6 = 1 then some .rot1op
    else if w.toNat / 2 ^ 9 = 0 then some .reg2op
    else if w.toNat / 2 ^ 6 = 8 then some .condBr
    else if w.toNat / 2 ^ 9 = 1 ∧ w.toNat / 8 % 8 = 0 then some .dir2op
    else if w.toNat / 2 ^ 9 = 1 ∧ w.toNat / 8 % 8 = 7 then some .imm2op
    else if w.toNat / 2 ^ 9 = 1 then some .ind2op
    else none := by
  simp only [formatPatterns_eq, firstMatch_cons, firstMatch_nil, prefixRow, modeRow, and_prefixMask_eq_iff,
    and_modeMask_eq_iff, extractMode_eq_iff]
  rfl

/-! ### The range table -/

/-- A range of opcodes with one format. -/
structure OpcodeRange where
  first : Nat
  size : Nat
  format : Format

/-- The opcode n lies in the range. -/
def OpcodeRange.Contains (r : OpcodeRange) (n : Nat) : Prop := r.first ≤ n ∧ n < r.first + r.size

/-- The rows of R101 that are ranges: the opcodes below 0x240. -/
def lowRanges : List OpcodeRange :=
  [⟨0x000, 4, .impl1opA⟩, ⟨0x004, 1, .jsr⟩, ⟨0x005, 3, .impl1opB⟩, ⟨0x008, 40, .reg1op⟩, ⟨0x030, 4, .gswd⟩,
    ⟨0x034, 4, .nopSin⟩, ⟨0x038, 8, .reg1op⟩, ⟨0x040, 64, .rot1op⟩, ⟨0x080, 384, .reg2op⟩, ⟨0x200, 64, .condBr⟩]

/-- The 64 opcodes of one operation of the memory formats: mode 0, modes 1 to 6, mode 7. -/
def memoryRanges (operation : Nat) : List OpcodeRange :=
  [⟨64 * operation, 8, .dir2op⟩, ⟨64 * operation + 8, 48, .ind2op⟩, ⟨64 * operation + 56, 8, .imm2op⟩]

/-- The whole opcode space of R101, in order. -/
def opcodeRanges : List OpcodeRange := lowRanges ++ (List.range' 9 7).flatMap memoryRanges

theorem forall_mem_opcodeRanges {P : OpcodeRange → Prop} (hlow : ∀ r ∈ lowRanges, P r)
    (hmem : ∀ k, 9 ≤ k → k < 16 → ∀ r ∈ memoryRanges k, P r) : ∀ r ∈ opcodeRanges, P r := by
  intro r hr
  obtain h | h := List.mem_append.mp hr
  · exact hlow r h
  · obtain ⟨k, hk, hrk⟩ := List.mem_flatMap.mp h
    obtain ⟨h9, h16⟩ := List.mem_range'_1.mp hk
    exact hmem k h9 h16 r hrk

/-- The table and the priority list both give a range's format to each of its opcodes: inside a range, omega decides
every condition of both chains. -/
theorem classify_and_firstMatch_of_mem (w : BitVec 10) : ∀ r ∈ opcodeRanges, r.Contains w.toNat →
    classify w = r.format ∧ firstMatch formatPatterns w = some r.format := by
  refine forall_mem_opcodeRanges ?low fun k h9 h16 => ?memory
  case' low => simp only [lowRanges, List.forall_mem_cons]
  case' memory => simp only [memoryRanges, List.forall_mem_cons]
  all_goals
    simp only [List.not_mem_nil, false_imp_iff, implies_true, and_true, OpcodeRange.Contains]
    and_intros <;> rintro ⟨hlo, hhi⟩ <;> simp (disch := omega) only
      [classify, firstMatch_formatPatterns_eq_ite, extractMode_eq_iff, ↓if_pos, ↓if_neg, and_self]

/-! ### Ranges that tile -/

/-- The ranges follow one another from start without a gap or an overlap. -/
def Tile : Nat → List OpcodeRange → Prop
  | _, [] => True
  | start, r :: rs => r.first = start ∧ Tile (start + r.size) rs

/-- The number of opcodes in the ranges. -/
def totalSize (rs : List OpcodeRange) : Nat := (rs.map OpcodeRange.size).sum

@[simp] theorem totalSize_nil : totalSize [] = 0 := rfl

@[simp] theorem totalSize_cons (r : OpcodeRange) (rs : List OpcodeRange) :
    totalSize (r :: rs) = r.size + totalSize rs := List.sum_cons

theorem Tile.exists_contains {rs : List OpcodeRange} {start n : Nat} (h : Tile start rs) (hlo : start ≤ n)
    (hhi : n < start + totalSize rs) : ∃ r ∈ rs, r.Contains n := by
  induction rs generalizing start with
  | nil => exact absurd hhi (Nat.not_lt.mpr hlo)
  | cons r rs ih =>
    obtain ⟨hfirst, htail⟩ := h
    by_cases hn : n < start + r.size
    · exact ⟨r, List.mem_cons_self, by rw [OpcodeRange.Contains]; omega⟩
    · rw [totalSize_cons] at hhi
      obtain ⟨r', hr', hc⟩ := ih htail (by omega) (by omega)
      exact ⟨r', List.mem_cons_of_mem r hr', hc⟩

theorem opcodeRanges_tile : Tile 0 opcodeRanges := by
  simp [Tile, opcodeRanges, lowRanges, memoryRanges, List.range']

theorem totalSize_opcodeRanges : totalSize opcodeRanges = 1024 := by decide

theorem exists_opcodeRange (n : Nat) (h : n < 1024) : ∃ r ∈ opcodeRanges, r.Contains n :=
  opcodeRanges_tile.exists_contains (Nat.zero_le n) (by rw [totalSize_opcodeRanges]; omega)

theorem countP_range'_of_const {start size : Nat} {g : Nat → Format} {c : Format}
    (hg : ∀ n ∈ List.range' start size, g n = c) (f : Format) :
    (List.range' start size).countP (fun n => g n == f) = if c = f then size else 0 := by
  rw [List.countP_congr (q := fun _ => c == f) fun n hn => by rw [hg n hn]]
  by_cases hf : c = f <;> simp [hf]

/-- Counting a format over tiling ranges of constant format adds up their sizes. -/
theorem Tile.countP_eq_sum {rs : List OpcodeRange} {start : Nat} (h : Tile start rs) {g : Nat → Format}
    (hg : ∀ r ∈ rs, ∀ n, r.Contains n → g n = r.format) (f : Format) :
    (List.range' start (totalSize rs)).countP (fun n => g n == f) =
      totalSize (rs.filter fun r => r.format == f) := by
  induction rs generalizing start with
  | nil => rfl
  | cons r rs ih =>
    obtain ⟨hfirst, htail⟩ := h
    have hconst : ∀ n ∈ List.range' start r.size, g n = r.format := fun n hn =>
      hg r List.mem_cons_self n (by rw [List.mem_range'_1] at hn; rwa [OpcodeRange.Contains, hfirst])
    rw [totalSize_cons, ← List.range'_append_1, List.countP_append, countP_range'_of_const hconst,
      ih htail fun r' hr' => hg r' (List.mem_cons_of_mem r hr')]
    by_cases hf : r.format = f <;> simp [hf]

theorem opcodeRange_end_le : ∀ r ∈ opcodeRanges, r.first + r.size ≤ 1024 := by decide

theorem classify_ofNat_of_mem (r : OpcodeRange) (hr : r ∈ opcodeRanges) (n : Nat) (hn : r.Contains n) :
    classify (BitVec.ofNat 10 n) = r.format := by
  have hlt : n < 2 ^ 10 := lt_of_lt_of_le hn.2 (opcodeRange_end_le r hr)
  refine (classify_and_firstMatch_of_mem _ r hr ?_).1
  rwa [BitVec.toNat_ofNat, Nat.mod_eq_of_lt hlt]

theorem countP_classify_eq (f : Format) :
    (List.range 1024).countP (fun n => classify (BitVec.ofNat 10 n) == f) =
      totalSize (opcodeRanges.filter fun r => r.format == f) := by
  rw [List.range_eq_range', ← totalSize_opcodeRanges]
  exact opcodeRanges_tile.countP_eq_sum classify_ofNat_of_mem f

/-- The priority list and the range table classify every opcode alike. -/
theorem firstMatch_formatPatterns (w : BitVec 10) : firstMatch formatPatterns w = some (classify w) := by
  obtain ⟨r, hr, hw⟩ := exists_opcodeRange w.toNat w.isLt
  obtain ⟨htable, hlist⟩ := classify_and_firstMatch_of_mem w r hr hw
  rw [htable, hlist]

/-- Settles O4: the ranges of R101 tile the opcodes, both readings are constant on each, and the sizes of a format's
ranges add up to its count. -/
theorem classificationIsFirstPattern : Obligations.ClassificationIsFirstPattern := by
  refine ⟨firstMatch_formatPatterns, ?counts⟩
  case counts =>
    simp only [countP_classify_eq]
    decide

end Sys2Proof
end

section
/-! The CRC engine (40_crc.md). A step done n times is the n-th iterate, a block is a fold over its bytes, and an
operation of an admitted instance answers the new running value in a state that is otherwise the same. -/

namespace Sys2Proof.Machine

/-! ### The datapath -/

theorem times_eq_iterate {α : Type} (f : α → α) (n : Nat) (x : α) : times f n x = f^[n] x := by
  induction n generalizing x with
  | zero => rfl
  | succ n ih => rw [times, ih, Function.iterate_succ_apply]

theorem crcByteRight_eq_iterate {w : Nat} (p c : BitVec w) (b : Byte) :
    crcByteRight p c b = (crcShiftRight p)^[8] (c ^^^ b.setWidth w) := by
  rw [crcByteRight, times_eq_iterate]

theorem crcByteLeft_eq_iterate {w : Nat} (p c : BitVec w) (b : Byte) :
    crcByteLeft p c b = (crcShiftLeft p)^[8] (c ^^^ (b.setWidth w <<< (w - 8))) := by
  rw [crcByteLeft, times_eq_iterate]

theorem crcBlock_eq_foldl {w : Nat} (dir : CrcDir) (p c : BitVec w) (bs : List Byte) :
    crcBlock dir p c bs = bs.foldl (crcByte dir p) c := by
  induction bs generalizing c with
  | nil => rfl
  | cons b bs ih => rw [crcBlock, ih, List.foldl_cons]

/-! ### The operation ports -/

theorem crcInstanceOk_iff {w p : Nat} : crcInstanceOk w p = true ↔ 8 ≤ w ∧ w ≤ 32 ∧ p < 2 ^ w := by
  simp [crcInstanceOk, and_assoc]

theorem runCrc_of_admitted {s : State} {w p : Nat} (hs : s.fault = none) (hok : crcInstanceOk w p = true) (c : Nat)
    (f : BitVec w → BitVec w → BitVec w) :
    runCrc w p c f s = .next { s with response := .crc (f (BitVec.ofNat w p) (BitVec.ofNat w c)).toNat } := by
  rw [runCrc, running_of_ok hs, if_pos hok]

theorem exec_crcUpdateByteRight (w p c : Nat) (b : Byte) (s : State) :
    exec (.crcUpdateByteRight w p c b) s = runCrc w p c (fun p c => crcByteRight p c b) s := rfl

theorem exec_crcUpdateByteLeft (w p c : Nat) (b : Byte) (s : State) :
    exec (.crcUpdateByteLeft w p c b) s = runCrc w p c (fun p c => crcByteLeft p c b) s := rfl

theorem exec_crcUpdateBlock (dir : CrcDir) (w p c : Nat) (bs : List Byte) (s : State) :
    exec (.crcUpdateBlock dir w p c bs) s = runCrc w p c (fun p c => crcBlock dir p c bs) s := rfl

/-- Settles O50: each port runs its datapath function on the reduced operand, and that function is eight iterated
shifts, or the fold of the byte update over the block. -/
theorem crcUpdatesComplete : Obligations.CrcUpdatesComplete := by
  intro s w p c b bs dir hs h8 h32 hp
  have hok : crcInstanceOk w p = true := crcInstanceOk_iff.mpr ⟨h8, h32, hp⟩
  refine ⟨?right, ?left, ?block⟩
  case right =>
    rw [exec_crcUpdateByteRight, runCrc_of_admitted hs hok, crcByteRight_eq_iterate]
    rfl
  case left =>
    rw [exec_crcUpdateByteLeft, runCrc_of_admitted hs hok, crcByteLeft_eq_iterate]
    rfl
  case block =>
    rw [exec_crcUpdateBlock, runCrc_of_admitted hs hok, crcBlock_eq_foldl]
    cases dir <;> rfl

end Sys2Proof.Machine
end

section
/-! Instruction words (30_encoding.md part A). A format is a condition on the number of the first word, the decoder is
inverted once into the twelve ways to decode a list of words, and the fields of a built word are the operands it was
built from. -/

namespace Sys2Proof

/-! ### Fields of a word -/

theorem toNat_extractLsb'_eq {n : Nat} (w : BitVec n) (lo len : Nat) :
    (w.extractLsb' lo len).toNat = w.toNat / 2 ^ lo % 2 ^ len := by
  rw [BitVec.extractLsb'_toNat, Nat.shiftRight_eq_div_pow]

theorem extractLsb'_eq_ofNat_iff {n : Nat} (w : BitVec n) (lo len c : Nat) :
    w.extractLsb' lo len = BitVec.ofNat len c ↔ w.toNat / 2 ^ lo % 2 ^ len = c % 2 ^ len := by
  rw [← BitVec.toNat_inj, toNat_extractLsb'_eq, BitVec.toNat_ofNat]

theorem toNat_append_eq {m n : Nat} (x : BitVec m) (y : BitVec n) :
    (x ++ y).toNat = x.toNat * 2 ^ n + y.toNat := by
  rw [BitVec.toNat_append, ← Nat.shiftLeft_add_eq_or_of_lt y.isLt, Nat.shiftLeft_eq]

/-- The low part of two parts put together. -/
theorem extractLsb'_append_low {m n : Nat} (x : BitVec m) (y : BitVec n) : (x ++ y).extractLsb' 0 n = y := by
  apply BitVec.eq_of_toNat_eq
  rw [toNat_extractLsb'_eq, toNat_append_eq, pow_zero, Nat.div_one, Nat.mul_add_mod_self_right,
    Nat.mod_eq_of_lt y.isLt]

/-! ### The formats as conditions on a number -/

/-- The opcodes of a format (30_encoding.md R101). -/
def InFormat (n : Nat) : Format → Prop
  | .impl1opA => n < 4
  | .jsr => n = 4
  | .impl1opB => 5 ≤ n ∧ n < 8
  | .reg1op => 8 ≤ n ∧ n < 0x40 ∧ n / 8 ≠ 6
  | .gswd => n / 4 = 12
  | .nopSin => n / 4 = 13
  | .rot1op => n / 64 = 1
  | .reg2op => 0x80 ≤ n ∧ n < 0x200
  | .condBr => n / 64 = 8
  | .dir2op => 0x240 ≤ n ∧ n < 0x400 ∧ n / 8 % 8 = 0
  | .ind2op => 0x240 ≤ n ∧ n < 0x400 ∧ n / 8 % 8 ≠ 0 ∧ n / 8 % 8 ≠ 7
  | .imm2op => 0x240 ≤ n ∧ n < 0x400 ∧ n / 8 % 8 = 7

/-- The word starts an instruction of a format. -/
def Starts (w : Word) (f : Format) : Prop := isWeeds w = false ∧ classify (opcodeOf w) = f

theorem isWeeds_eq_false_iff {w : Word} : isWeeds w = false ↔ w.toNat < 1024 := by
  rw [isWeeds, bne_eq_false_iff_eq, extractLsb'_eq_ofNat_iff]
  omega

theorem toNat_opcodeOf {w : Word} (hw : isWeeds w = false) : (opcodeOf w).toNat = w.toNat := by
  rw [isWeeds_eq_false_iff] at hw
  rw [opcodeOf, toNat_extractLsb'_eq]
  omega

theorem inFormat_of_mem : ∀ r ∈ opcodeRanges, ∀ n, r.Contains n → InFormat n r.format := by
  refine forall_mem_opcodeRanges ?low fun k h9 h16 => ?memory
  case' low => simp only [lowRanges, List.forall_mem_cons]
  case' memory => simp only [memoryRanges, List.forall_mem_cons]
  all_goals
    simp only [List.not_mem_nil, false_imp_iff, implies_true, and_true, OpcodeRange.Contains, InFormat]
    and_intros <;> omega

theorem inFormat_classify (w : BitVec 10) : InFormat w.toNat (classify w) := by
  obtain ⟨r, hr, hw⟩ := exists_opcodeRange w.toNat w.isLt
  rw [(classify_and_firstMatch_of_mem w r hr hw).1]
  exact inFormat_of_mem r hr _ hw

theorem classify_of_inFormat {w : BitVec 10} {f : Format} (h : InFormat w.toNat f) : classify w = f := by
  cases f <;> simp only [InFormat] at h <;>
    simp (disch := omega) only [classify, extractMode_eq_iff, ↓if_pos, ↓if_neg, ite_self]

theorem starts_iff {w : Word} {f : Format} : Starts w f ↔ InFormat w.toNat f := by
  constructor
  · rintro ⟨hw, rfl⟩
    rw [← toNat_opcodeOf hw]
    exact inFormat_classify _
  · intro h
    have hw : isWeeds w = false := by
      rw [isWeeds_eq_false_iff]
      cases f <;> simp only [InFormat] at h <;> omega
    exact ⟨hw, classify_of_inFormat (by rwa [toNat_opcodeOf hw])⟩

theorem starts_classify {w : Word} (hw : isWeeds w = false) : Starts w (classify (opcodeOf w)) := ⟨hw, rfl⟩

/-! ### Decoding, inverted -/

/-- The ways to decode a list of words: one for each format, with the operands its function reads (41_decode.md R163 to
R166). -/
inductive DecodesTo (sdbd : Bool) : List Word → Instr → List Word → Prop
  | impliedA {w1 i rest} (hf : Starts w1 .impl1opA) (h : decodeImplied w1 = some i) :
      DecodesTo sdbd (w1 :: rest) i rest
  | impliedB {w1 i rest} (hf : Starts w1 .impl1opB) (h : decodeImplied w1 = some i) :
      DecodesTo sdbd (w1 :: rest) i rest
  | reg1 {w1 i rest} (hf : Starts w1 .reg1op) (h : decodeReg1 w1 = some i) : DecodesTo sdbd (w1 :: rest) i rest
  | gswd {w1 rest} (hf : Starts w1 .gswd) : DecodesTo sdbd (w1 :: rest) (.gswd (w1.extractLsb' 0 2)) rest
  | nopSin {w1 rest} (hf : Starts w1 .nopSin) : DecodesTo sdbd (w1 :: rest) (decodeNopSin w1) rest
  | rotate {w1 i rest} (hf : Starts w1 .rot1op) (h : decodeRotate w1 = some i) : DecodesTo sdbd (w1 :: rest) i rest
  | reg2 {w1 i rest} (hf : Starts w1 .reg2op) (h : decodeReg2 w1 = some i) : DecodesTo sdbd (w1 :: rest) i rest
  | indirect {w1 i rest} (hf : Starts w1 .ind2op) (h : decodeIndirect w1 = some i) :
      DecodesTo sdbd (w1 :: rest) i rest
  | branch {w1 w2 i rest} (hf : Starts w1 .condBr) (h : decodeBranch w1 w2 = some i) :
      DecodesTo sdbd (w1 :: w2 :: rest) i rest
  | direct {w1 w2 i rest} (hf : Starts w1 .dir2op) (h : decodeDirect w1 w2 = some i) :
      DecodesTo sdbd (w1 :: w2 :: rest) i rest
  | jsr {w1 w2 w3 i rest} (hf : Starts w1 .jsr) (h : decodeJsr w2 w3 = some i) :
      DecodesTo sdbd (w1 :: w2 :: w3 :: rest) i rest
  | immediate {w1 w2 i rest} (hf : Starts w1 .imm2op) (hs : sdbd = false) (h : decodeImmediate w1 w2 = some i) :
      DecodesTo sdbd (w1 :: w2 :: rest) i rest
  | immediateSdbd {w1 w2 w3 i rest} (hf : Starts w1 .imm2op) (hs : sdbd = true)
      (h : decodeImmediate w1 (sdbdImmediate w2 w3) = some i) : DecodesTo sdbd (w1 :: w2 :: w3 :: rest) i rest

theorem orTruncated_eq_ok_iff {o : Option Instr} {ws rest : List Word} {i : Instr} :
    orTruncated o ws = .ok (i, rest) ↔ o = some i ∧ ws = rest := by
  cases o <;> simp [orTruncated]

theorem decodesTo_of_decodeWords {sdbd : Bool} {ws rest : List Word} {i : Instr}
    (h : decodeWords sdbd ws = .ok (i, rest)) : DecodesTo sdbd ws i rest := by
  rcases ws with _ | ⟨w1, ws⟩
  · cases h
  simp only [decodeWords] at h
  split at h
  · cases h
  next hw =>
    have hf := starts_classify (Bool.eq_false_iff.mpr hw)
    generalize classify (opcodeOf w1) = f at h hf
    split at h
    case h_1 => obtain ⟨hi, rfl⟩ := orTruncated_eq_ok_iff.mp h; exact .impliedA hf hi
    case h_2 => obtain ⟨hi, rfl⟩ := orTruncated_eq_ok_iff.mp h; exact .impliedB hf hi
    case h_3 => obtain ⟨hi, rfl⟩ := orTruncated_eq_ok_iff.mp h; exact .reg1 hf hi
    case h_4 => cases h; exact .gswd hf
    case h_5 => cases h; exact .nopSin hf
    case h_6 => obtain ⟨hi, rfl⟩ := orTruncated_eq_ok_iff.mp h; exact .rotate hf hi
    case h_7 => obtain ⟨hi, rfl⟩ := orTruncated_eq_ok_iff.mp h; exact .reg2 hf hi
    case h_8 => obtain ⟨hi, rfl⟩ := orTruncated_eq_ok_iff.mp h; exact .indirect hf hi
    case h_9 => obtain ⟨hi, rfl⟩ := orTruncated_eq_ok_iff.mp h; exact .branch hf hi
    case h_10 => obtain ⟨hi, rfl⟩ := orTruncated_eq_ok_iff.mp h; exact .direct hf hi
    case h_11 => obtain ⟨hi, rfl⟩ := orTruncated_eq_ok_iff.mp h; exact .jsr hf hi
    case h_12 =>
      split at h
      next hs =>
        split at h
        · obtain ⟨hi, rfl⟩ := orTruncated_eq_ok_iff.mp h; exact .immediateSdbd hf hs hi
        · cases h
      next hs => obtain ⟨hi, rfl⟩ := orTruncated_eq_ok_iff.mp h; exact .immediate hf (Bool.eq_false_iff.mpr hs) hi
    case h_13 => cases h

theorem decodeWords_of_decodesTo {sdbd : Bool} {ws rest : List Word} {i : Instr} (h : DecodesTo sdbd ws i rest) :
    decodeWords sdbd ws = .ok (i, rest) := by
  cases h with
  | impliedA hf h | impliedB hf h | reg1 hf h | rotate hf h | reg2 hf h | indirect hf h | branch hf h | direct hf h
  | jsr hf h => simp [decodeWords, orTruncated, hf.1, hf.2, h]
  | gswd hf | nopSin hf => simp [decodeWords, hf.1, hf.2]
  | immediate hf hs h | immediateSdbd hf hs h => simp [decodeWords, orTruncated, hf.1, hf.2, hs, h]

/-! ### Decoding a built word -/

theorem wordReg_toNat (top : BitVec 13) (n : BitVec 3) : (wordReg top n).toNat = top.toNat * 8 + n.toNat :=
  toNat_append_eq top n

theorem wordRotate_toNat (op : BitVec 3) (k : BitVec 1) (n : BitVec 2) :
    (wordRotate op k n).toNat = 64 + op.toNat * 8 + k.toNat * 4 + n.toNat := by
  simp only [wordRotate, toNat_append_eq, BitVec.reduceToNat]
  omega

theorem wordTwo_toNat (top : BitVec 1) (op s d : BitVec 3) :
    (wordTwo top op s d).toNat = top.toNat * 512 + op.toNat * 64 + s.toNat * 8 + d.toNat := by
  simp only [wordTwo, toNat_append_eq, BitVec.reduceToNat]
  omega

theorem wordBranch_toNat (d : Direction) (x : BitVec 1) (cccc : BitVec 4) :
    (wordBranch d x cccc).toNat = 512 + d.bit.toNat * 32 + x.toNat * 16 + cccc.toNat := by
  simp only [wordBranch, toNat_append_eq, BitVec.reduceToNat]
  omega

/-- A field whose number is known. -/
theorem extractLsb'_eq_of_toNat {n lo len : Nat} {w : BitVec n} {c : BitVec len}
    (h : w.toNat / 2 ^ lo % 2 ^ len = c.toNat) : w.extractLsb' lo len = c :=
  BitVec.eq_of_toNat_eq (by rw [toNat_extractLsb'_eq, h])

@[simp] theorem wordReg_register (top : BitVec 13) (n : BitVec 3) : (wordReg top n).extractLsb' 0 3 = n :=
  extractLsb'_append_low top n

@[simp] theorem wordReg_operation (top : BitVec 13) (n : BitVec 3) :
    (wordReg top n).extractLsb' 3 3 = top.extractLsb' 0 3 :=
  extractLsb'_eq_of_toNat (by rw [wordReg_toNat, toNat_extractLsb'_eq]; omega)

@[simp] theorem wordReg_low2 (top : BitVec 13) (x : BitVec 1) (n : BitVec 2) :
    (wordReg top (x ++ n)).extractLsb' 0 2 = n :=
  extractLsb'_eq_of_toNat (by rw [wordReg_toNat, toNat_append_eq]; omega)

@[simp] theorem wordReg_low1 (top : BitVec 13) (m : BitVec 2) (x : BitVec 1) :
    (wordReg top (m ++ x)).extractLsb' 0 1 = x :=
  extractLsb'_eq_of_toNat (by rw [wordReg_toNat, toNat_append_eq]; omega)

@[simp] theorem wordReg_bit1 (top : BitVec 13) (m : BitVec 2) (x : BitVec 1) :
    (wordReg top (m ++ x)).extractLsb' 1 1 = m.extractLsb' 0 1 :=
  extractLsb'_eq_of_toNat (by rw [wordReg_toNat, toNat_append_eq, toNat_extractLsb'_eq]; omega)

@[simp] theorem wordRotate_operation (op : BitVec 3) (k : BitVec 1) (n : BitVec 2) :
    (wordRotate op k n).extractLsb' 3 3 = op :=
  extractLsb'_eq_of_toNat (by rw [wordRotate_toNat]; omega)

@[simp] theorem wordRotate_count (op : BitVec 3) (k : BitVec 1) (n : BitVec 2) :
    (wordRotate op k n).extractLsb' 2 1 = k :=
  extractLsb'_eq_of_toNat (by rw [wordRotate_toNat]; omega)

@[simp] theorem wordRotate_register (op : BitVec 3) (k : BitVec 1) (n : BitVec 2) :
    (wordRotate op k n).extractLsb' 0 2 = n :=
  extractLsb'_eq_of_toNat (by rw [wordRotate_toNat]; omega)

@[simp] theorem wordTwo_operation (top : BitVec 1) (op s d : BitVec 3) :
    (wordTwo top op s d).extractLsb' 6 3 = op :=
  extractLsb'_eq_of_toNat (by rw [wordTwo_toNat]; omega)

@[simp] theorem wordTwo_source (top : BitVec 1) (op s d : BitVec 3) : (wordTwo top op s d).extractLsb' 3 3 = s :=
  extractLsb'_eq_of_toNat (by rw [wordTwo_toNat]; omega)

@[simp] theorem wordTwo_register (top : BitVec 1) (op s d : BitVec 3) : (wordTwo top op s d).extractLsb' 0 3 = d :=
  extractLsb'_eq_of_toNat (by rw [wordTwo_toNat]; omega)

@[simp] theorem wordBranch_condition (d : Direction) (x : BitVec 1) (cccc : BitVec 4) :
    (wordBranch d x cccc).extractLsb' 0 4 = cccc :=
  extractLsb'_eq_of_toNat (by rw [wordBranch_toNat]; omega)

@[simp] theorem wordBranch_external (d : Direction) (x : BitVec 1) (cccc : BitVec 4) :
    (wordBranch d x cccc).extractLsb' 4 1 = x :=
  extractLsb'_eq_of_toNat (by rw [wordBranch_toNat]; omega)

@[simp] theorem wordBranch_directionBit (d : Direction) (x : BitVec 1) (cccc : BitVec 4) :
    (wordBranch d x cccc).extractLsb' 5 1 = d.bit :=
  extractLsb'_eq_of_toNat (by rw [wordBranch_toNat]; omega)

@[simp] theorem directionOf_wordBranch (d : Direction) (x : BitVec 1) (cccc : BitVec 4) :
    directionOf (wordBranch d x cccc) = d := by
  cases d <;> simp [directionOf, Direction.bit]

variable {sdbd : Bool} {rest : List Word} {i : Instr}

theorem decodesTo_wordReg {op : BitVec 13} {n : BitVec 3} (hop : 1 ≤ op.toNat ∧ op.toNat < 8 ∧ op.toNat ≠ 6)
    (h : decodeReg1 (wordReg op n) = some i) : DecodesTo sdbd (wordReg op n :: rest) i rest := by
  refine .reg1 (starts_iff.mpr ?_) h
  rw [wordReg_toNat, InFormat]
  omega

theorem decodesTo_gswd (n : BitVec 2) : DecodesTo sdbd (wordReg 6#13 (0#1 ++ n) :: rest) (.gswd n) rest := by
  have hf : Starts (wordReg 6#13 (0#1 ++ n)) .gswd := by
    rw [starts_iff, wordReg_toNat, toNat_append_eq, InFormat]
    simp only [BitVec.reduceToNat]
    omega
  simpa using DecodesTo.gswd (sdbd := sdbd) (rest := rest) hf

theorem decodesTo_nopSin {m : BitVec 2} {x : BitVec 1} (hm : 2 ≤ m.toNat)
    (h : decodeNopSin (wordReg 6#13 (m ++ x)) = i) : DecodesTo sdbd (wordReg 6#13 (m ++ x) :: rest) i rest := by
  subst h
  refine .nopSin (starts_iff.mpr ?_)
  rw [wordReg_toNat, toNat_append_eq, InFormat]
  simp only [BitVec.reduceToNat]
  omega

theorem decodesTo_wordRotate {op : BitVec 3} {k : BitVec 1} {n : BitVec 2}
    (h : decodeRotate (wordRotate op k n) = some i) : DecodesTo sdbd (wordRotate op k n :: rest) i rest := by
  refine .rotate (starts_iff.mpr ?_) h
  rw [wordRotate_toNat, InFormat]
  omega

theorem decodesTo_reg2 {op s d : BitVec 3} (hop : 2 ≤ op.toNat) (h : decodeReg2 (wordTwo 0#1 op s d) = some i) :
    DecodesTo sdbd (wordTwo 0#1 op s d :: rest) i rest := by
  refine .reg2 (starts_iff.mpr ?_) h
  rw [wordTwo_toNat, InFormat]
  simp only [BitVec.reduceToNat]
  omega

theorem starts_wordBranch (d : Direction) (x : BitVec 1) (cccc : BitVec 4) : Starts (wordBranch d x cccc) .condBr := by
  rw [starts_iff, wordBranch_toNat, InFormat]
  omega

/-- The memory formats differ in the mode field alone (30_encoding.md R109). -/
theorem starts_wordTwo_iff {op s d : BitVec 3} (hop : 1 ≤ op.toNat) :
    (s.toNat = 0 → Starts (wordTwo 1#1 op s d) .dir2op) ∧
    (s.toNat ≠ 0 → s.toNat ≠ 7 → Starts (wordTwo 1#1 op s d) .ind2op) ∧
    (s.toNat = 7 → Starts (wordTwo 1#1 op s d) .imm2op) := by
  simp only [starts_iff, wordTwo_toNat, InFormat, BitVec.reduceToNat]
  omega

theorem decodesTo_direct {op r : BitVec 3} {ea : Word} (hop : 1 ≤ op.toNat)
    (h : decodeDirect (wordTwo 1#1 op 0#3 r) ea = some i) :
    DecodesTo sdbd (wordTwo 1#1 op 0#3 r :: ea :: rest) i rest :=
  .direct ((starts_wordTwo_iff hop).1 rfl) h

theorem decodesTo_indirect {op m r : BitVec 3} (hop : 1 ≤ op.toNat) (hm : m ≠ 0#3 ∧ m ≠ 7#3)
    (h : decodeIndirect (wordTwo 1#1 op m r) = some i) : DecodesTo sdbd (wordTwo 1#1 op m r :: rest) i rest :=
  .indirect ((starts_wordTwo_iff hop).2.1 (fun h0 => hm.1 (BitVec.eq_of_toNat_eq h0))
    fun h7 => hm.2 (BitVec.eq_of_toNat_eq h7)) h

theorem sdbdImmediate_bytes (imm : Word) :
    sdbdImmediate (0#8 ++ imm.extractLsb' 0 8) (0#8 ++ imm.extractLsb' 8 8) = imm := by
  apply BitVec.eq_of_toNat_eq
  simp only [sdbdImmediate, extractLsb'_append_low, toNat_append_eq, toNat_extractLsb'_eq]
  omega

theorem decodesTo_immediate {op r : BitVec 3} {imm : Word} (hop : 1 ≤ op.toNat)
    (h : decodeImmediate (wordTwo 1#1 op 7#3 r) imm = some i) :
    DecodesTo sdbd (wordsImmediate sdbd op r imm ++ rest) i rest := by
  have hf : Starts (wordTwo 1#1 op 7#3 r) .imm2op := (starts_wordTwo_iff hop).2.2 rfl
  cases sdbd with
  | false => exact .immediate hf rfl h
  | true => exact .immediateSdbd hf rfl (by rwa [sdbdImmediate_bytes])

theorem starts_jsr : Starts 0x0004#16 .jsr := starts_iff.mpr rfl

/-- The later words of a JSR give back what they were built from. -/
theorem jsr_fields (rr ii : BitVec 2) (t : Word) :
    (0#6 ++ rr ++ t.extractLsb' 10 6 ++ ii : Word).extractLsb' 0 2 = ii ∧
    (0#6 ++ rr ++ t.extractLsb' 10 6 ++ ii : Word).extractLsb' 8 2 = rr ∧
    jumpTarget (0#6 ++ rr ++ t.extractLsb' 10 6 ++ ii) (0#6 ++ t.extractLsb' 0 10) = t := by
  refine ⟨extractLsb'_append_low _ ii, extractLsb'_eq_of_toNat ?_, BitVec.eq_of_toNat_eq ?_⟩
  · simp only [toNat_append_eq, toNat_extractLsb'_eq, BitVec.reduceToNat]
    omega
  · simp only [jumpTarget, toNat_append_eq, toNat_extractLsb'_eq, BitVec.reduceToNat]
    omega

theorem decodesTo_jsr {rr ii : BitVec 2} {t : Word}
    (h : ∀ w2 w3 : Word, w2.extractLsb' 0 2 = ii → w2.extractLsb' 8 2 = rr → jumpTarget w2 w3 = t →
      decodeJsr w2 w3 = some i) : DecodesTo sdbd (wordsJsr rr ii t ++ rest) i rest := by
  obtain ⟨hii, hrr, ht⟩ := jsr_fields rr ii t
  exact .jsr starts_jsr (h _ _ hii hrr ht)

/-- The words of a well-formed instruction decode to it. -/
theorem decodesTo_of_encodeWords {ws : List Word} (hi : i.wellFormed = true) (h : encodeWords sdbd i = some ws) :
    DecodesTo sdbd (ws ++ rest) i rest := by
  cases i with
  | hlt | sdbd | eis | dis => cases h; exact .impliedA (starts_iff.mpr (by simp [InFormat])) rfl
  | tci | clrc | setc => cases h; exact .impliedB (starts_iff.mpr (by simp [InFormat])) rfl
  | incr | decr | comr | negr | adcr | rswd =>
    cases h; exact decodesTo_wordReg (by decide) (by simp [decodeReg1])
  | gswd n => cases h; exact decodesTo_gswd n
  | nop | sin => cases h; exact decodesTo_nopSin (by decide) (by simp [decodeNopSin])
  | swap | sll | rlc | sllc | slr | sar | rrc | sarc =>
    cases h; exact decodesTo_wordRotate (by simp [decodeRotate])
  | movr s d =>
    cases h; exact decodesTo_reg2 (by decide) (by simpa [decodeReg2, Instr.wellFormed] using hi)
  | tstr | addr | subr | cmpr | andr | xorr =>
    cases h; exact decodesTo_reg2 (by decide) (by simp [decodeReg2])
  | j | je | jd | jRsv => cases h; exact decodesTo_jsr fun w2 w3 hii hrr ht => by simp [decodeJsr, hii, hrr, ht]
  | jsr | jsre | jsrd | jsrRsv =>
    cases h
    exact decodesTo_jsr fun w2 w3 hii hrr ht => by simpa [decodeJsr, hii, hrr, ht, Instr.wellFormed] using hi
  | b | bc | bov | bpl | beq | blt | ble | busc | nopp | bnc | bnov | bmi | bneq | bge | bgt | besc | bext =>
    cases h; exact .branch (starts_wordBranch _ _ _) (by simp [decodeBranch])
  | mvo | mvi | add | sub | cmp | and | xor =>
    cases h; exact decodesTo_direct (by decide) (by simp [decodeDirect])
  | mvoInd | mviInd | addInd | subInd | cmpInd | andInd | xorInd =>
    cases h
    exact decodesTo_indirect (by decide) (by simpa [Instr.wellFormed] using hi) (by simp [decodeIndirect])
  | mvoi | mvii | addi | subi | cmpi | andi | xori =>
    cases h; exact decodesTo_immediate (by decide) (by simp [decodeImmediate])
  | _ => cases h

/-- Settles O1: the words of each format's encoder are read by that format's function, which finds the operands the
encoder put there. -/
theorem decodeInvertsEncode : Obligations.DecodeInvertsEncode := by
  intro sdbd i ws rest hi h
  exact decodeWords_of_decodesTo (decodesTo_of_encodeWords hi h)

end Sys2Proof
end

section
/-! What is decoded encodes back: each format's function names an instruction whose encoder rebuilds the first word from
the fields that were read, and no field value is left without an instruction. -/

namespace Sys2Proof

/-! ### First words rebuilt from their fields -/

theorem wordReg_eq {w : Word} {top : BitVec 13} (h : w.toNat / 8 = top.toNat) :
    wordReg top (w.extractLsb' 0 3) = w := by
  apply BitVec.eq_of_toNat_eq
  rw [wordReg_toNat, toNat_extractLsb'_eq]
  omega

theorem wordReg_two_eq {w : Word} {x : BitVec 1} (h : w.toNat / 4 = 12 + x.toNat) (hx : x.toNat = 0) :
    wordReg 6#13 (x ++ w.extractLsb' 0 2) = w := by
  apply BitVec.eq_of_toNat_eq
  simp only [wordReg_toNat, toNat_append_eq, toNat_extractLsb'_eq, BitVec.reduceToNat]
  omega

theorem wordReg_one_eq {w : Word} {m : BitVec 2} (h : w.toNat / 2 = 24 + m.toNat) :
    wordReg 6#13 (m ++ w.extractLsb' 0 1) = w := by
  apply BitVec.eq_of_toNat_eq
  simp only [wordReg_toNat, toNat_append_eq, toNat_extractLsb'_eq, BitVec.reduceToNat]
  omega

theorem wordRotate_eq {w : Word} {op : BitVec 3} (h : w.toNat / 8 = 8 + op.toNat) :
    wordRotate op (w.extractLsb' 2 1) (w.extractLsb' 0 2) = w := by
  apply BitVec.eq_of_toNat_eq
  simp only [wordRotate_toNat, toNat_extractLsb'_eq]
  omega

theorem wordTwo_eq {w : Word} {top : BitVec 1} {op : BitVec 3} (h : w.toNat / 64 = top.toNat * 8 + op.toNat) :
    wordTwo top op (w.extractLsb' 3 3) (w.extractLsb' 0 3) = w := by
  apply BitVec.eq_of_toNat_eq
  simp only [wordTwo_toNat, toNat_extractLsb'_eq]
  omega

theorem toNat_directionOf (w : Word) : (directionOf w).bit.toNat = w.toNat / 32 % 2 := by
  have h := extractLsb'_eq_ofNat_iff w 5 1 1
  unfold directionOf
  split
  next hb => have := h.mp hb; simp only [Direction.bit, BitVec.reduceToNat]; omega
  next hb => have := mt h.mpr hb; simp only [Direction.bit, BitVec.reduceToNat]; omega

theorem wordBranch_eq {w : Word} {x : BitVec 1} {cccc : BitVec 4} (hf : Starts w .condBr)
    (h : w.toNat % 32 = x.toNat * 16 + cccc.toNat) : wordBranch (directionOf w) x cccc = w := by
  have hw := starts_iff.mp hf
  rw [InFormat] at hw
  apply BitVec.eq_of_toNat_eq
  rw [wordBranch_toNat, toNat_directionOf]
  omega

/-! ### One format at a time -/

variable {sdbd : Bool} {w1 w2 w3 : Word} {i : Instr}

theorem encode_decodeImplied (hf : w1.toNat < 8) (h : decodeImplied w1 = some i) :
    i.wellFormed = true ∧ encodeWords sdbd i = some [w1] := by
  have hw : w1 = BitVec.ofNat 16 (w1.extractLsb' 0 3).toNat := by
    apply BitVec.eq_of_toNat_eq
    rw [BitVec.toNat_ofNat, toNat_extractLsb'_eq]
    omega
  unfold decodeImplied at h
  split at h
  case h_8 => cases h
  all_goals
    next hop =>
      rw [hop] at hw
      cases h
      exact ⟨rfl, by rw [hw]; rfl⟩

theorem encode_decodeReg1 (hf : Starts w1 .reg1op) (h : decodeReg1 w1 = some i) :
    i.wellFormed = true ∧ encodeWords sdbd i = some [w1] := by
  have hw := starts_iff.mp hf
  rw [InFormat] at hw
  simp only [decodeReg1, toNat_extractLsb'_eq] at h
  split at h
  case h_7 => cases h
  all_goals
    next hop =>
      cases h
      exact ⟨rfl, congrArg (some [·]) (wordReg_eq (by simp only [BitVec.reduceToNat]; omega))⟩

theorem encode_gswd (hf : Starts w1 .gswd) : encodeWords sdbd (.gswd (w1.extractLsb' 0 2)) = some [w1] := by
  have hw := starts_iff.mp hf
  rw [InFormat] at hw
  exact congrArg (some [·]) (wordReg_two_eq (by simpa using hw) rfl)

theorem encode_decodeNopSin (hf : Starts w1 .nopSin) :
    (decodeNopSin w1).wellFormed = true ∧ encodeWords sdbd (decodeNopSin w1) = some [w1] := by
  have hw := starts_iff.mp hf
  rw [InFormat] at hw
  simp only [decodeNopSin, extractLsb'_eq_ofNat_iff]
  split_ifs
  all_goals exact ⟨rfl, congrArg (some [·]) (wordReg_one_eq (by simp only [BitVec.reduceToNat]; omega))⟩

theorem encode_decodeRotate (hf : Starts w1 .rot1op) (h : decodeRotate w1 = some i) :
    i.wellFormed = true ∧ encodeWords sdbd i = some [w1] := by
  have hw := starts_iff.mp hf
  rw [InFormat] at hw
  simp only [decodeRotate, toNat_extractLsb'_eq] at h
  split at h
  case h_9 => cases h
  all_goals
    next hop =>
      cases h
      exact ⟨rfl, congrArg (some [·]) (wordRotate_eq (by simp only [BitVec.reduceToNat]; omega))⟩

/-- The first word of a two-register or memory form, from its operation field. -/
theorem wordTwo_eq_of_op {top : BitVec 1} {op : BitVec 3} (htop : w1.toNat / 512 = top.toNat)
    (hop : (w1.extractLsb' 6 3).toNat = op.toNat) :
    wordTwo top op (w1.extractLsb' 3 3) (w1.extractLsb' 0 3) = w1 := by
  rw [toNat_extractLsb'_eq] at hop
  exact wordTwo_eq (by omega)

theorem encode_decodeReg2 (hf : Starts w1 .reg2op) (h : decodeReg2 w1 = some i) :
    i.wellFormed = true ∧ encodeWords sdbd i = some [w1] := by
  have hw := starts_iff.mp hf
  rw [InFormat] at hw
  have htop : w1.toNat / 512 = (0#1).toNat := by simp only [BitVec.reduceToNat]; omega
  simp only [decodeReg2] at h
  split at h
  case h_7 => cases h
  case h_1 hop =>
    have hword := wordTwo_eq_of_op (op := 2#3) htop hop
    split at h
    next hsd => rw [hsd] at hword; cases h; exact ⟨rfl, congrArg (some [·]) hword⟩
    next hsd => cases h; exact ⟨bne_iff_ne.mpr hsd, congrArg (some [·]) hword⟩
  all_goals
    next hop =>
      cases h
      exact ⟨rfl, congrArg (some [·]) (wordTwo_eq_of_op htop hop)⟩

theorem encode_decodeIndirect (hf : Starts w1 .ind2op) (h : decodeIndirect w1 = some i) :
    i.wellFormed = true ∧ encodeWords sdbd i = some [w1] := by
  have hw := starts_iff.mp hf
  rw [InFormat] at hw
  have htop : w1.toNat / 512 = (1#1).toNat := by simp only [BitVec.reduceToNat]; omega
  have hm : (w1.extractLsb' 3 3 != 0#3 && w1.extractLsb' 3 3 != 7#3) = true := by
    simp only [Bool.and_eq_true, bne_iff_ne, ne_eq, extractLsb'_eq_ofNat_iff]
    omega
  unfold decodeIndirect at h
  split at h
  case h_8 => cases h
  all_goals
    next hop =>
      cases h
      exact ⟨hm, congrArg (some [·]) (wordTwo_eq_of_op htop hop)⟩

theorem encode_decodeDirect (hf : Starts w1 .dir2op) (h : decodeDirect w1 w2 = some i) :
    i.wellFormed = true ∧ encodeWords sdbd i = some [w1, w2] := by
  have hw := starts_iff.mp hf
  rw [InFormat] at hw
  have htop : w1.toNat / 512 = (1#1).toNat := by simp only [BitVec.reduceToNat]; omega
  have hmode : w1.extractLsb' 3 3 = 0#3 := (extractLsb'_eq_ofNat_iff w1 3 3 0).mpr (by omega)
  unfold decodeDirect at h
  split at h
  case h_8 => cases h
  all_goals
    next hop =>
      cases h
      exact ⟨rfl, congrArg (some [·, w2]) (hmode ▸ wordTwo_eq_of_op htop hop)⟩

theorem encode_decodeBranch (hf : Starts w1 .condBr) (h : decodeBranch w1 w2 = some i) :
    i.wellFormed = true ∧ encodeWords sdbd i = some [w1, w2] := by
  simp only [decodeBranch, extractLsb'_eq_ofNat_iff] at h
  split at h
  next hx =>
    cases h
    refine ⟨rfl, congrArg (some [·, w2]) (wordBranch_eq hf ?_)⟩
    rw [toNat_extractLsb'_eq]
    simp only [BitVec.reduceToNat]
    omega
  next hx =>
    rw [toNat_extractLsb'_eq] at h
    split at h
    case h_17 => cases h
    all_goals
      next hc =>
        cases h
        exact ⟨rfl, congrArg (some [·, w2]) (wordBranch_eq hf (by simp only [BitVec.reduceToNat]; omega))⟩

theorem encode_decodeJsr (hf : Starts w1 .jsr) (h : decodeJsr w2 w3 = some i) :
    i.wellFormed = true ∧ ∃ x y, encodeWords sdbd i = some [w1, x, y] := by
  obtain rfl : w1 = 0x0004#16 := BitVec.eq_of_toNat_eq (starts_iff.mp hf)
  simp only [decodeJsr] at h
  split at h
  case h_5 => cases h
  all_goals
    split at h
    next => cases h; exact ⟨rfl, _, _, rfl⟩
    next hrr => cases h; exact ⟨bne_iff_ne.mpr hrr, _, _, rfl⟩

/-- What the two lengths of an immediate form share: the first word. -/
theorem encode_decodeImmediate {imm : Word} (hf : Starts w1 .imm2op) (h : decodeImmediate w1 imm = some i) :
    i.wellFormed = true ∧ encodeWords false i = some [w1, imm] ∧ ∃ x y, encodeWords true i = some [w1, x, y] := by
  have hw := starts_iff.mp hf
  rw [InFormat] at hw
  have htop : w1.toNat / 512 = (1#1).toNat := by simp only [BitVec.reduceToNat]; omega
  have hmode : w1.extractLsb' 3 3 = 7#3 := (extractLsb'_eq_ofNat_iff w1 3 3 7).mpr (by omega)
  have hword (op : BitVec 3) (hop : (w1.extractLsb' 6 3).toNat = op.toNat) :
      wordTwo 1#1 op 7#3 (w1.extractLsb' 0 3) = w1 := by
    rw [← hmode]
    exact wordTwo_eq_of_op htop hop
  unfold decodeImmediate at h
  split at h
  case h_8 => cases h
  all_goals
    next hop =>
      cases h
      exact ⟨rfl, congrArg (some [·, imm]) (hword _ hop), _, _, congrArg (some [·, _, _]) (hword _ hop)⟩

/-! ### The whole decoder -/

theorem instrLength_of_starts {f : Format} (hf : Starts w1 f) : instrLength sdbd w1 = lengthWith sdbd f := by
  rw [instrLength, hf.2]

/-- Settles O2: the decoded list, read by its format, is rebuilt by the encoder of the instruction found. -/
theorem decodedInstructionEncodesBack : Obligations.DecodedInstructionEncodesBack := by
  intro sdbd ws rest i h
  replace h := decodesTo_of_decodeWords h
  cases h with
  | @impliedA w1 _ _ hf h | @impliedB w1 _ _ hf h =>
    have hlt : w1.toNat < 8 := by have := starts_iff.mp hf; rw [InFormat] at this; omega
    obtain ⟨hi, henc⟩ := encode_decodeImplied hlt h
    exact ⟨hi, w1, [], [], rfl, (instrLength_of_starts hf).symm, henc, rfl, fun _ _ => rfl⟩
  | @reg1 w1 _ _ hf h =>
    obtain ⟨hi, henc⟩ := encode_decodeReg1 hf h
    exact ⟨hi, w1, [], [], rfl, (instrLength_of_starts hf).symm, henc, rfl, fun _ _ => rfl⟩
  | @gswd w1 _ hf =>
    exact ⟨rfl, w1, [], [], rfl, (instrLength_of_starts hf).symm, encode_gswd hf, rfl, fun _ _ => rfl⟩
  | @nopSin w1 _ hf =>
    obtain ⟨hi, henc⟩ := encode_decodeNopSin hf
    exact ⟨hi, w1, [], [], rfl, (instrLength_of_starts hf).symm, henc, rfl, fun _ _ => rfl⟩
  | @rotate w1 _ _ hf h =>
    obtain ⟨hi, henc⟩ := encode_decodeRotate hf h
    exact ⟨hi, w1, [], [], rfl, (instrLength_of_starts hf).symm, henc, rfl, fun _ _ => rfl⟩
  | @reg2 w1 _ _ hf h =>
    obtain ⟨hi, henc⟩ := encode_decodeReg2 hf h
    exact ⟨hi, w1, [], [], rfl, (instrLength_of_starts hf).symm, henc, rfl, fun _ _ => rfl⟩
  | @indirect w1 _ _ hf h =>
    obtain ⟨hi, henc⟩ := encode_decodeIndirect hf h
    exact ⟨hi, w1, [], [], rfl, (instrLength_of_starts hf).symm, henc, rfl, fun _ _ => rfl⟩
  | @branch w1 w2 _ _ hf h =>
    obtain ⟨hi, henc⟩ := encode_decodeBranch hf h
    exact ⟨hi, w1, [w2], [w2], rfl, (instrLength_of_starts hf).symm, henc, rfl, fun _ _ => rfl⟩
  | @direct w1 w2 _ _ hf h =>
    obtain ⟨hi, henc⟩ := encode_decodeDirect hf h
    exact ⟨hi, w1, [w2], [w2], rfl, (instrLength_of_starts hf).symm, henc, rfl, fun _ _ => rfl⟩
  | @jsr w1 w2 w3 _ _ hf h =>
    obtain ⟨hi, x, y, henc⟩ := encode_decodeJsr hf h
    exact ⟨hi, w1, [w2, w3], [x, y], rfl, (instrLength_of_starts hf).symm, henc, rfl, fun hc => absurd hf.2 hc⟩
  | @immediate w1 w2 _ _ hf hs h =>
    obtain ⟨hi, henc, -⟩ := encode_decodeImmediate hf h
    subst hs
    exact ⟨hi, w1, [w2], [w2], rfl, by rw [instrLength_of_starts hf]; rfl, henc, rfl, fun _ _ => rfl⟩
  | @immediateSdbd w1 w2 w3 _ _ hf hs h =>
    obtain ⟨hi, -, x, y, henc⟩ := encode_decodeImmediate hf h
    subst hs
    exact ⟨hi, w1, [w2, w3], [x, y], rfl, by rw [instrLength_of_starts hf]; rfl, henc, rfl,
      fun _ hc => absurd (hc.resolve_left fun hne => hne hf.2) (by decide)⟩

/-! ### No gap in the opcode space -/

theorem exists_decodeImplied (hf : Starts w1 .impl1opA ∨ Starts w1 .impl1opB) : ∃ i, decodeImplied w1 = some i := by
  simp only [starts_iff, InFormat] at hf
  simp only [decodeImplied, toNat_extractLsb'_eq]
  split
  case h_8 => simp only [imp_false] at *; omega
  all_goals exact ⟨_, rfl⟩

theorem exists_decodeReg1 (hf : Starts w1 .reg1op) : ∃ i, decodeReg1 w1 = some i := by
  rw [starts_iff, InFormat] at hf
  simp only [decodeReg1, toNat_extractLsb'_eq]
  split
  case h_7 => simp only [imp_false] at *; omega
  all_goals exact ⟨_, rfl⟩

theorem exists_decodeRotate (w1 : Word) : ∃ i, decodeRotate w1 = some i := by
  simp only [decodeRotate, toNat_extractLsb'_eq]
  split
  case h_9 => simp only [imp_false] at *; omega
  all_goals exact ⟨_, rfl⟩

theorem exists_decodeReg2 (hf : Starts w1 .reg2op) : ∃ i, decodeReg2 w1 = some i := by
  rw [starts_iff, InFormat] at hf
  simp only [decodeReg2, toNat_extractLsb'_eq]
  split
  case h_7 => simp only [imp_false] at *; omega
  all_goals exact ⟨_, rfl⟩

theorem exists_decodeJsr (w2 w3 : Word) : ∃ i, decodeJsr w2 w3 = some i := by
  simp only [decodeJsr, toNat_extractLsb'_eq]
  split
  case h_5 => simp only [imp_false] at *; omega
  all_goals exact ⟨_, rfl⟩

theorem exists_decodeBranch (w1 w2 : Word) : ∃ i, decodeBranch w1 w2 = some i := by
  simp only [decodeBranch, toNat_extractLsb'_eq]
  split
  · exact ⟨_, rfl⟩
  split
  case h_17 => simp only [imp_false] at *; omega
  all_goals exact ⟨_, rfl⟩

/-- The memory formats have no operation 0 (30_encoding.md R109). -/
theorem exists_decodeMemory (hw : 0x240 ≤ w1.toNat ∧ w1.toNat < 0x400) (x : Word) :
    (∃ i, decodeDirect w1 x = some i) ∧ (∃ i, decodeIndirect w1 = some i) ∧ ∃ i, decodeImmediate w1 x = some i := by
  simp only [decodeDirect, decodeIndirect, decodeImmediate, toNat_extractLsb'_eq]
  and_intros
  all_goals
    split
    case h_8 => simp only [imp_false] at *; omega
    all_goals exact ⟨_, rfl⟩

/-- Three words are enough for any first word with no bit above the opcode. -/
theorem exists_decodesTo (sdbd : Bool) (hw : isWeeds w1 = false) (w2 w3 : Word) :
    ∃ i rest, DecodesTo sdbd [w1, w2, w3] i rest := by
  have hf := starts_classify hw
  generalize classify (opcodeOf w1) = f at hf
  have hn := starts_iff.mp hf
  cases f with
  | impl1opA => obtain ⟨i, h⟩ := exists_decodeImplied (.inl hf); exact ⟨i, _, .impliedA hf h⟩
  | impl1opB => obtain ⟨i, h⟩ := exists_decodeImplied (.inr hf); exact ⟨i, _, .impliedB hf h⟩
  | reg1op => obtain ⟨i, h⟩ := exists_decodeReg1 hf; exact ⟨i, _, .reg1 hf h⟩
  | gswd => exact ⟨_, _, .gswd hf⟩
  | nopSin => exact ⟨_, _, .nopSin hf⟩
  | rot1op => obtain ⟨i, h⟩ := exists_decodeRotate w1; exact ⟨i, _, .rotate hf h⟩
  | reg2op => obtain ⟨i, h⟩ := exists_decodeReg2 hf; exact ⟨i, _, .reg2 hf h⟩
  | jsr => obtain ⟨i, h⟩ := exists_decodeJsr w2 w3; exact ⟨i, _, .jsr hf h⟩
  | condBr => obtain ⟨i, h⟩ := exists_decodeBranch w1 w2; exact ⟨i, _, .branch hf h⟩
  | dir2op => obtain ⟨⟨i, h⟩, -⟩ := exists_decodeMemory ⟨hn.1, hn.2.1⟩ w2; exact ⟨i, _, .direct hf h⟩
  | ind2op => obtain ⟨-, ⟨i, h⟩, -⟩ := exists_decodeMemory ⟨hn.1, hn.2.1⟩ w2; exact ⟨i, _, .indirect hf h⟩
  | imm2op =>
    cases sdbd with
    | false => obtain ⟨-, -, i, h⟩ := exists_decodeMemory ⟨hn.1, hn.2.1⟩ w2; exact ⟨i, _, .immediate hf rfl h⟩
    | true =>
      obtain ⟨-, -, i, h⟩ := exists_decodeMemory ⟨hn.1, hn.2.1⟩ (sdbdImmediate w2 w3)
      exact ⟨i, _, .immediateSdbd hf rfl h⟩

/-- What has words has a record, and nothing else has. -/
theorem isSome_recordOf (sdbd : Bool) (i : Instr) (f : Machine.Fetch) :
    (Machine.recordOf i f).isSome = (encodeWords sdbd i).isSome := by
  cases i <;> rfl

theorem isWeeds_eq_false_iff_extract {w : Word} : isWeeds w = false ↔ w.extractLsb' 10 6 = 0#6 :=
  bne_eq_false_iff_eq

/-- Settles O5: three words decode, the length of what is decoded is that of the words taken, and what encodes back to
words has a record. -/
theorem decodingIsTotal : Obligations.DecodingIsTotal := by
  intro sdbd w1 w2 w3
  refine ⟨fun hw => ?total, fun hw ws => ?refused⟩
  case total =>
    obtain ⟨i, rest, h⟩ := exists_decodesTo sdbd (isWeeds_eq_false_iff_extract.mpr hw) w2 w3
    have hdec := decodeWords_of_decodesTo h
    obtain ⟨-, x, used, again, hws, hlen, henc, -⟩ := decodedInstructionEncodesBack sdbd _ rest i hdec
    obtain ⟨rfl, htail⟩ := List.cons.inj hws
    have htotal : 2 = (used ++ rest).length := congrArg List.length htail
    rw [List.length_append] at htotal
    refine ⟨i, rest, hdec, by omega, fun f => Option.isSome_iff_exists.mp ?_⟩
    rw [isSome_recordOf sdbd, henc, Option.isSome_some]
  case refused =>
    have hweeds : isWeeds w1 = true := bne_iff_ne.mpr hw
    simp [decodeWords, hweeds]

/-- Settles O6: each example word evaluates to the instruction it stands for. -/
theorem specExampleWordsDecode : Obligations.SpecExampleWordsDecode := by
  refine ⟨?_, ?_, ?_, ?_, ?_, ?_, ?_, ?_, ?_, ?_, ?_, ?_⟩ <;> rfl

end Sys2Proof
end

section
/-! Transactions and rows of the opcode table (30_encoding.md part B, log 12). A row's fields make up the number of its
address, so the address chain of the decoder is decided by arithmetic; the meaning of a row is that of the transaction it
stands for, and the meaning of an instruction word is its record, cached and returned. -/

namespace Sys2Proof

/-! ### Row addresses as numbers -/

theorem toNat_bankswitchAddr (c : BitVec 4) (h : BitVec 1) :
    (bankswitchAddr c h).toNat = 0x40 + h.toNat * 16 + c.toNat := by
  simp only [bankswitchAddr, toNat_append_eq, BitVec.reduceToNat]
  omega

theorem toNat_chapterEnd (c : BitVec 4) : (chapterEnd c).toNat = c.toNat * 0x1000 + 0xFFF :=
  toNat_append_eq c 0xFFF#12

theorem toNat_mapSetAddr (copy : MapCopy) (p : BitVec 8) :
    (mapSetAddr copy p).toNat = 0x1000 + copy.bit.toNat * 256 + p.toNat := by
  simp only [mapSetAddr, toNat_append_eq, BitVec.reduceToNat]
  omega

theorem toNat_permSetAddr (copy : MapCopy) (p : BitVec 8) :
    (permSetAddr copy p).toNat = 0x1200 + copy.bit.toNat * 256 + p.toNat := by
  simp only [permSetAddr, toNat_append_eq, BitVec.reduceToNat]
  omega

theorem toNat_pflSetAddr (c g : BitVec 4) : (pflSetAddr c g).toNat = 0x1400 + c.toNat * 16 + g.toNat := by
  simp only [pflSetAddr, toNat_append_eq, BitVec.reduceToNat]
  omega

theorem toNat_pairAddr (k : BitVec 3) (half : BitVec 1) :
    (pairAddr k half).toNat = 0x9F80 + k.toNat * 2 + half.toNat := by
  simp only [pairAddr, toNat_append_eq, BitVec.reduceToNat]
  omega

theorem toNat_jlpRegAddr (i : BitVec 4) : (jlpRegAddr i).toNat = 0x9F80 + i.toNat := by
  simp only [jlpRegAddr, toNat_append_eq, BitVec.reduceToNat]
  omega

theorem toNat_extRegAddr (i : BitVec 4) : (extRegAddr i).toNat = 0x9F90 + i.toNat := by
  simp only [extRegAddr, toNat_append_eq, BitVec.reduceToNat]
  omega

theorem copyOf_bit (copy : MapCopy) : copyOf copy.bit = copy := by cases copy <;> rfl

theorem toNat_bit_copyOf (x : BitVec 1) : (copyOf x).bit.toNat = x.toNat := by
  obtain rfl | rfl : x = 0#1 ∨ x = 1#1 := by revert x; decide
  · rfl
  · rfl

/-! ### The chain of write addresses -/

theorem word_eq_iff (a : Word) (n : Nat) : a = BitVec.ofNat 16 n ↔ a.toNat = n % 2 ^ 16 := by
  rw [← BitVec.toNat_inj, BitVec.toNat_ofNat]

/-- The write chain with each condition a condition on the number of the address. -/
theorem decodeWrite_eq_ite (a v : Word) : decodeWrite a v =
    if a.toNat / 32 = 2 then .bankswitch (a.extractLsb' 0 4) (a.extractLsb' 4 1) v
    else if a.toNat / 512 = 8 then .mapSet (copyOf (a.extractLsb' 8 1)) (a.extractLsb' 0 8) v
    else if a.toNat / 512 = 9 then .permSet (copyOf (a.extractLsb' 8 1)) (a.extractLsb' 0 8) v
    else if a.toNat / 256 = 20 then .pflSet (a.extractLsb' 4 4) (a.extractLsb' 0 4) v
    else if a.toNat = 0x8025 then .jlpSgAddr v
    else if a.toNat = 0x8026 then .jlpSgRow v
    else if a.toNat = 0x802D then .jlpRamToFlash v
    else if a.toNat = 0x802E then .jlpFlashToRam v
    else if a.toNat = 0x802F then .jlpSectorErase v
    else if a.toNat = 0x8033 then .jlpUnlock v
    else if a.toNat = 0x8034 then .jlpLock v
    else if a.toNat / 16 = 0x9F8 then decodeJlpRegWrite a v
    else if a.toNat / 16 = 0x9F9 then .jlpExtReg (a.extractLsb' 0 4) (.write v)
    else if a.toNat = 0x9FFC then .jlpCrcFold v
    else if a.toNat = 0x9FFD then .jlpCrcAccess (.write v)
    else if a.toNat % 4096 = 4095 then .pageFlip (a.extractLsb' 12 4) v
    else .busWrite a v := by
  have ha := a.isLt
  simp only [decodeWrite, extractLsb'_eq_ofNat_iff, word_eq_iff, Nat.reducePow, Nat.reduceMod, Nat.div_one,
    Nat.mod_eq_of_lt (show a.toNat / 32 < 2048 by omega), Nat.mod_eq_of_lt (show a.toNat / 512 < 128 by omega),
    Nat.mod_eq_of_lt (show a.toNat / 256 < 256 by omega), Nat.mod_eq_of_lt (show a.toNat / 16 < 4096 by omega)]

theorem decodeRead_eq_ite (a : Word) (force : Bool) : decodeRead a force =
    if a.toNat / 16 = 0x9F8 then .jlpRegRead (a.extractLsb' 0 4) force
    else if a.toNat / 16 = 0x9F9 then .jlpExtReg (a.extractLsb' 0 4) (.read force)
    else if a.toNat = 0x9FFD then .jlpCrcAccess (.read force)
    else if a.toNat = 0x9FFE then .jlpRandom force
    else .busRead a force := by
  have ha := a.isLt
  simp only [decodeRead, extractLsb'_eq_ofNat_iff, word_eq_iff, Nat.reducePow, Nat.reduceMod,
    Nat.mod_eq_of_lt (show a.toNat / 16 < 4096 by omega)]

theorem decodeWrite_pairAddr (k : BitVec 3) (half : BitVec 1) (v : Word) :
    decodeWrite (pairAddr k half) v = decodeJlpRegWrite (pairAddr k half) v := by
  have h := toNat_pairAddr k half
  simp (disch := omega) only [decodeWrite_eq_ite, ↓if_pos, ↓if_neg]

@[simp] theorem pairAddr_half (k : BitVec 3) (half : BitVec 1) : (pairAddr k half).extractLsb' 0 1 = half :=
  extractLsb'_eq_of_toNat (by rw [toNat_pairAddr]; omega)

@[simp] theorem pairAddr_pair (k : BitVec 3) (half : BitVec 1) : (pairAddr k half).extractLsb' 1 3 = k :=
  extractLsb'_eq_of_toNat (by rw [toNat_pairAddr]; omega)

theorem decodeWrite_of_no_row {a v : Word} (h : writeHasRow a = false) : decodeWrite a v = .busWrite a v := by
  have ha := a.isLt
  simp only [writeHasRow, Bool.or_eq_false_iff, beq_eq_false_iff_ne, ne_eq, extractLsb'_eq_ofNat_iff,
    word_eq_iff] at h
  simp (disch := omega) only [decodeWrite_eq_ite, ↓if_neg]

theorem decodeRead_of_no_row {a : Word} {force : Bool} (h : readHasRow a = false) :
    decodeRead a force = .busRead a force := by
  have ha := a.isLt
  simp only [readHasRow, Bool.or_eq_false_iff, beq_eq_false_iff_ne, ne_eq, extractLsb'_eq_ofNat_iff,
    word_eq_iff] at h
  simp (disch := omega) only [decodeRead_eq_ite, ↓if_neg]

/-! ### From a row to its address and back -/

theorem decodeWrite_bankswitchAddr (c : BitVec 4) (h : BitVec 1) (v : Word) :
    decodeWrite (bankswitchAddr c h) v = .bankswitch c h v := by
  have ha := toNat_bankswitchAddr c h
  have hc : (bankswitchAddr c h).extractLsb' 0 4 = c := extractLsb'_eq_of_toNat (by omega)
  have hh : (bankswitchAddr c h).extractLsb' 4 1 = h := extractLsb'_eq_of_toNat (by omega)
  simp (disch := omega) only [decodeWrite_eq_ite, ↓if_pos, hc, hh]

theorem decodeWrite_mapSetAddr (copy : MapCopy) (p : BitVec 8) (v : Word) :
    decodeWrite (mapSetAddr copy p) v = .mapSet copy p v := by
  have ha := toNat_mapSetAddr copy p
  have hc : (mapSetAddr copy p).extractLsb' 8 1 = copy.bit := extractLsb'_eq_of_toNat (by omega)
  have hp : (mapSetAddr copy p).extractLsb' 0 8 = p := extractLsb'_eq_of_toNat (by omega)
  simp (disch := omega) only [decodeWrite_eq_ite, ↓if_pos, ↓if_neg, hc, hp, copyOf_bit]

theorem decodeWrite_permSetAddr (copy : MapCopy) (p : BitVec 8) (v : Word) :
    decodeWrite (permSetAddr copy p) v = .permSet copy p v := by
  have ha := toNat_permSetAddr copy p
  have hc : (permSetAddr copy p).extractLsb' 8 1 = copy.bit := extractLsb'_eq_of_toNat (by omega)
  have hp : (permSetAddr copy p).extractLsb' 0 8 = p := extractLsb'_eq_of_toNat (by omega)
  simp (disch := omega) only [decodeWrite_eq_ite, ↓if_pos, ↓if_neg, hc, hp, copyOf_bit]

theorem decodeWrite_pflSetAddr (c g : BitVec 4) (v : Word) : decodeWrite (pflSetAddr c g) v = .pflSet c g v := by
  have ha := toNat_pflSetAddr c g
  have hc : (pflSetAddr c g).extractLsb' 4 4 = c := extractLsb'_eq_of_toNat (by omega)
  have hg : (pflSetAddr c g).extractLsb' 0 4 = g := extractLsb'_eq_of_toNat (by omega)
  simp (disch := omega) only [decodeWrite_eq_ite, ↓if_pos, ↓if_neg, hc, hg]

theorem decodeWrite_chapterEnd (c : BitVec 4) (v : Word) : decodeWrite (chapterEnd c) v = .pageFlip c v := by
  have ha := toNat_chapterEnd c
  have hc : (chapterEnd c).extractLsb' 12 4 = c := extractLsb'_eq_of_toNat (by omega)
  simp (disch := omega) only [decodeWrite_eq_ite, ↓if_pos, ↓if_neg, hc]

theorem decodeWrite_jlpRegAddr (i : BitVec 2) (v : Word) :
    decodeWrite (jlpRegAddr (3#2 ++ i)) v = .jlpRegWrite i v := by
  have ha := toNat_jlpRegAddr (3#2 ++ i)
  simp only [toNat_append_eq, BitVec.reduceToNat] at ha
  have hi : (jlpRegAddr (3#2 ++ i)).extractLsb' 0 2 = i := extractLsb'_eq_of_toNat (by omega)
  simp (disch := omega) only [decodeWrite_eq_ite, ↓if_pos, ↓if_neg, decodeJlpRegWrite, toNat_extractLsb'_eq, hi]

theorem decodeWrite_extRegAddr (i : BitVec 4) (v : Word) : decodeWrite (extRegAddr i) v = .jlpExtReg i (.write v) := by
  have ha := toNat_extRegAddr i
  have hi : (extRegAddr i).extractLsb' 0 4 = i := extractLsb'_eq_of_toNat (by omega)
  simp (disch := omega) only [decodeWrite_eq_ite, ↓if_pos, ↓if_neg, hi]

theorem decodeRead_extRegAddr (i : BitVec 4) (force : Bool) :
    decodeRead (extRegAddr i) force = .jlpExtReg i (.read force) := by
  have ha := toNat_extRegAddr i
  have hi : (extRegAddr i).extractLsb' 0 4 = i := extractLsb'_eq_of_toNat (by omega)
  simp (disch := omega) only [decodeRead_eq_ite, ↓if_pos, ↓if_neg, hi]

theorem decodeRead_jlpRegAddr (i : BitVec 4) (force : Bool) :
    decodeRead (jlpRegAddr i) force = .jlpRegRead i force := by
  have ha := toNat_jlpRegAddr i
  have hi : (jlpRegAddr i).extractLsb' 0 4 = i := extractLsb'_eq_of_toNat (by omega)
  simp (disch := omega) only [decodeRead_eq_ite, ↓if_pos, hi]

/-- A well-formed row decodes from its transaction. -/
theorem decodeRequest_of_encodeRequest {i : Instr} {r : Request} (hi : i.wellFormed = true)
    (h : encodeRequest i = some r) : decodeRequest r = i := by
  cases i with
  | busRead a force => cases h; exact decodeRead_of_no_row (by simpa [Instr.wellFormed] using hi)
  | busWrite a v => cases h; exact decodeWrite_of_no_row (by simpa [Instr.wellFormed] using hi)
  | bankswitch c h' v => cases h; exact decodeWrite_bankswitchAddr c h' v
  | pageFlip c v => cases h; exact decodeWrite_chapterEnd c v
  | mapSet copy p v => cases h; exact decodeWrite_mapSetAddr copy p v
  | permSet copy p v => cases h; exact decodeWrite_permSetAddr copy p v
  | pflSet c g v => cases h; exact decodeWrite_pflSetAddr c g v
  | jlpUnlock | jlpLock | jlpSgAddr | jlpSgRow | jlpRamToFlash | jlpFlashToRam | jlpSectorErase | jlpCrcFold
  | jlpRandom => cases h; rfl
  | jlpMulSs half v | jlpMulSu half v | jlpMulUs half v | jlpMulUu half v | jlpDivSs half v | jlpDivUu half v =>
    cases h
    simp only [decodeRequest, decodeWrite_pairAddr, decodeJlpRegWrite, pairAddr_half, pairAddr_pair,
      BitVec.reduceToNat]
  | jlpRegWrite i v => cases h; exact decodeWrite_jlpRegAddr i v
  | jlpRegRead i force => cases h; exact decodeRead_jlpRegAddr i force
  | jlpExtReg i acc =>
    cases acc <;> cases h
    · exact decodeRead_extRegAddr i _
    · exact decodeWrite_extRegAddr i _
  | jlpCrcAccess acc => cases acc <;> cases h <;> rfl
  | decode | invalidate | reset | tick | crcUpdateByteRight | crcUpdateByteLeft | crcUpdateBlock | crc16Fold =>
    cases h; rfl
  | _ => cases h

/-- A transaction at an address with the same number is the same. -/
theorem write_congr {a b : Word} (v : Word) (h : b.toNat = a.toNat) :
    some (Request.write b v) = some (.write a v) := by rw [BitVec.eq_of_toNat_eq h]

theorem read_congr {a b : Word} (force : Bool) (h : b.toNat = a.toNat) :
    some (Request.read b force) = some (.read a force) := by rw [BitVec.eq_of_toNat_eq h]

theorem encodeRequest_decodeJlpRegWrite {a v : Word} (ha : a.toNat / 16 = 0x9F8) :
    encodeRequest (decodeJlpRegWrite a v) = some (.write a v) := by
  simp only [decodeJlpRegWrite, toNat_extractLsb'_eq]
  split
  case h_7 =>
    simp only [imp_false] at *
    refine write_congr v ?_
    simp only [toNat_jlpRegAddr, toNat_append_eq, toNat_extractLsb'_eq, BitVec.reduceToNat]
    omega
  all_goals
    refine write_congr v ?_
    simp only [toNat_pairAddr, toNat_extractLsb'_eq, BitVec.reduceToNat]
    omega

theorem encodeRequest_ite {p : Prop} [Decidable p] {i j : Instr} {r : Option Request} (hj : ¬p → encodeRequest j = r)
    (hi : p → encodeRequest i = r) : encodeRequest (if p then i else j) = r := by
  by_cases hp : p
  · rw [if_pos hp, hi hp]
  · rw [if_neg hp, hj hp]

/-- A row whose fields give the number of its address stands for a write there. -/
theorem encodeRequest_decodeWrite (a v : Word) : encodeRequest (decodeWrite a v) = some (.write a v) := by
  have ha := a.isLt
  rw [decodeWrite_eq_ite]
  refine encodeRequest_ite (fun _ => ?_) fun _ => write_congr v ?bankswitch
  refine encodeRequest_ite (fun _ => ?_) fun _ => write_congr v ?mapSet
  refine encodeRequest_ite (fun _ => ?_) fun _ => write_congr v ?permSet
  refine encodeRequest_ite (fun _ => ?_) fun _ => write_congr v ?pflSet
  refine encodeRequest_ite (fun _ => ?_) fun h => write_congr v h.symm
  refine encodeRequest_ite (fun _ => ?_) fun h => write_congr v h.symm
  refine encodeRequest_ite (fun _ => ?_) fun h => write_congr v h.symm
  refine encodeRequest_ite (fun _ => ?_) fun h => write_congr v h.symm
  refine encodeRequest_ite (fun _ => ?_) fun h => write_congr v h.symm
  refine encodeRequest_ite (fun _ => ?_) fun h => write_congr v h.symm
  refine encodeRequest_ite (fun _ => ?_) fun h => write_congr v h.symm
  refine encodeRequest_ite (fun _ => ?_) encodeRequest_decodeJlpRegWrite
  refine encodeRequest_ite (fun _ => ?_) fun _ => write_congr v ?extReg
  refine encodeRequest_ite (fun _ => ?_) fun h => write_congr v h.symm
  refine encodeRequest_ite (fun _ => ?_) fun h => write_congr v h.symm
  refine encodeRequest_ite (fun _ => rfl) fun _ => write_congr v ?pageFlip
  all_goals
    simp only [toNat_bankswitchAddr, toNat_mapSetAddr, toNat_permSetAddr, toNat_bit_copyOf, toNat_pflSetAddr,
      toNat_extRegAddr, toNat_chapterEnd, toNat_extractLsb'_eq]
    omega

theorem encodeRequest_decodeRead (a : Word) (force : Bool) :
    encodeRequest (decodeRead a force) = some (.read a force) := by
  have ha := a.isLt
  rw [decodeRead_eq_ite]
  refine encodeRequest_ite (fun _ => ?_) fun _ => read_congr force ?jlpReg
  refine encodeRequest_ite (fun _ => ?_) fun _ => read_congr force ?extReg
  refine encodeRequest_ite (fun _ => ?_) fun h => read_congr force h.symm
  refine encodeRequest_ite (fun _ => rfl) fun h => read_congr force h.symm
  all_goals
    simp only [toNat_jlpRegAddr, toNat_extRegAddr, toNat_extractLsb'_eq]
    omega

/-- A transaction is the one its row stands for. -/
theorem encodeRequest_decodeRequest (r : Request) : encodeRequest (decodeRequest r) = some r := by
  cases r with
  | read a force => exact encodeRequest_decodeRead a force
  | write a v => exact encodeRequest_decodeWrite a v
  | crcByte dir => cases dir <;> rfl
  | decode | invalidate | reset | tick | crcBlock | crc16Fold => rfl

/-- Settles O3: a row's address is found by the decoder's chain, and the chain's fields rebuild the address. -/
theorem transactionRowsRoundTrip : Obligations.TransactionRowsRoundTrip :=
  ⟨fun _ _ hi h => decodeRequest_of_encodeRequest hi h, encodeRequest_decodeRequest⟩

end Sys2Proof
end

section
/-! The meaning of a row and of an instruction word, said once: a row runs the transaction it stands for, and an
instruction word runs its record (log 12, log 20). -/

namespace Sys2Proof.Machine

/-! ### Rows -/

/-- The meaning of a transaction. -/
def runRequest : Request → State → Host.Outcome State Fault Refusal
  | .read a force => readTransaction a force
  | .write a v => writeTransaction a v
  | .decode a => execDecode a
  | .invalidate lo hi => execInvalidate lo hi
  | .reset => execReset
  | .tick n => execTick n
  | .crcByte .right width poly crc x => execCrcUpdateByteRight width poly crc x
  | .crcByte .left width poly crc x => execCrcUpdateByteLeft width poly crc x
  | .crcBlock dir width poly crc xs => execCrcUpdateBlock dir width poly crc xs
  | .crc16Fold crc v => execCrc16Fold crc v

/-- A row means the transaction it stands for. -/
theorem exec_of_encodeRequest {i : Instr} {r : Request} (h : encodeRequest i = some r) (s : State) :
    exec i s = runRequest r s := by
  cases i with
  | jlpExtReg i acc | jlpCrcAccess acc => cases acc <;> cases h <;> rfl
  | _ => cases h <;> rfl

theorem exec_decodeRequest (r : Request) (s : State) : exec (decodeRequest r) s = runRequest r s :=
  exec_of_encodeRequest (encodeRequest_decodeRequest r) s

/-- Settles O28: the row of an address stands for the plain access there. -/
theorem rowsAreBusTransactions : Obligations.RowsAreBusTransactions := fun s a v force =>
  ⟨exec_decodeRequest (.read a force) s, exec_decodeRequest (.write a v) s⟩

/-- Settles O16: the step takes the head of the queue. -/
theorem stepRunsOldestTransaction : Obligations.StepRunsOldestTransaction := fun _ _ _ => step_cons

/-- A step that answers a next state is idle, or runs the oldest transaction. -/
theorem step_eq_next_cases {s t : State} (h : step s = .next t) :
    s.requests = [] ∧ t = s ∨
      ∃ r rest, s.requests = r :: rest ∧ runRequest r { s with requests := rest } = .next t := by
  obtain h | ⟨r, rest, hr, h⟩ := step_cases h
  · exact .inl h
  · exact .inr ⟨r, rest, hr, by rwa [exec_decodeRequest] at h⟩

/-! ### Instruction words -/

/-- An instruction word means its record. -/
theorem exec_of_recordOf {i : Instr} {s : State} {r : DecodedRecord} (h : recordOf i s.fetch = some r) :
    exec i s = runRecord r s := by
  cases i <;> cases h <;> rfl

theorem exec_eq_next_of_recordOf {i : Instr} {s : State} {r : DecodedRecord} (hs : s.fault = none)
    (h : recordOf i s.fetch = some r) : exec i s = .next (commitRecord r s) := by
  rw [exec_of_recordOf h, runRecord, running_of_ok hs]

/-- What is not a row of the table has a record. -/
theorem exists_record_or_request (i : Instr) : (∀ f, ∃ r, recordOf i f = some r) ∨ ∃ r, encodeRequest i = some r := by
  cases h : encodeRequest i with
  | some r => exact .inr ⟨r, rfl⟩
  | none =>
    refine .inl fun f => ?_
    cases i with
    | jlpExtReg i acc | jlpCrcAccess acc => cases acc <;> cases h
    | _ => cases h <;> exact ⟨_, rfl⟩

theorem regNumber_eq (n : BitVec 3) : regNumber n = Fin.ofNat 8 n.toNat :=
  Fin.ext (Nat.mod_eq_of_lt n.isLt).symm

theorem lowRegNumber_eq (n : BitVec 2) : lowRegNumber n = Fin.ofNat 8 n.toNat := by
  rw [lowRegNumber, regNumber_eq, BitVec.toNat_setWidth_of_le (by decide)]

theorem saveRegister_eq (rr : BitVec 2) : saveRegister rr = Fin.ofNat 8 (4 + rr.toNat) := by
  rw [saveRegister, regNumber_eq, toNat_append_eq]
  rfl

theorem rotateCount_eq (k : BitVec 1) : rotateCount k = BitVec.ofNat 16 (k.toNat + 1) := by
  apply BitVec.eq_of_toNat_eq
  simp [rotateCount]

theorem setWidth_eq_ofNat (k : BitVec 1) : k.setWidth 16 = BitVec.ofNat 16 k.toNat := by
  apply BitVec.eq_of_toNat_eq
  simp

theorem directionNumber_eq (d : Direction) : directionNumber d = if d = .backward then 1 else 0 := by
  cases d <;> rfl

theorem branchTarget_eq (a : Word) (d : Direction) (disp : Word) :
    branchTarget a d disp = a + 2#16 + (if d = .backward then ~~~disp else disp) := by
  cases d <;> rfl

theorem branchOp_eq (x : BitVec 1) (cccc : BitVec 4) : (x ++ cccc).toNat = x.toNat * 16 + cccc.toNat :=
  toNat_append_eq x cccc

theorem immediateLength_eq (after : Bool) : lengthWith after .imm2op = if after = true then 3 else 2 := by
  cases after <;> rfl

/-- Settles O9: the record of each implied instruction is committed. -/
theorem impliedInstructionsComplete : Obligations.ImpliedInstructionsComplete := by
  intro s hs
  simp only [List.forall_mem_cons, List.not_mem_nil, false_imp_iff, implies_true, and_true]
  and_intros <;> exact exec_eq_next_of_recordOf hs rfl

/-- Settles O10: the record of each one-register instruction is committed; its register and its count are numbers below
the width they are stored in. -/
theorem oneRegisterInstructionsComplete : Obligations.OneRegisterInstructionsComplete := by
  intro s n m k hs
  simp only [List.forall_mem_cons, List.not_mem_nil, false_imp_iff, implies_true, and_true, ← regNumber_eq,
    ← lowRegNumber_eq, ← rotateCount_eq, ← setWidth_eq_ofNat]
  and_intros <;> exact exec_eq_next_of_recordOf hs rfl

/-- Settles O11: the record of each two-register instruction is committed. -/
theorem twoRegisterInstructionsComplete : Obligations.TwoRegisterInstructionsComplete := by
  intro s a b hs
  simp only [List.forall_mem_cons, List.not_mem_nil, false_imp_iff, implies_true, and_true, ← regNumber_eq]
  and_intros <;> exact exec_eq_next_of_recordOf hs rfl

/-- Settles O12: the record of each jump is committed. -/
theorem jumpInstructionsComplete : Obligations.JumpInstructionsComplete := by
  intro s rr t hs
  simp only [List.forall_mem_cons, List.not_mem_nil, false_imp_iff, implies_true, and_true, ← saveRegister_eq]
  and_intros <;> exact exec_eq_next_of_recordOf hs rfl

/-- Settles O13: the record of each branch is committed; the direction chooses the displacement or its complement. -/
theorem branchInstructionsComplete : Obligations.BranchInstructionsComplete := by
  intro s d disp e hs
  simp only [List.forall_mem_cons, List.not_mem_nil, false_imp_iff, implies_true, and_true, ← directionNumber_eq,
    ← branchTarget_eq, ← branchOp_eq]
  and_intros <;> exact exec_eq_next_of_recordOf hs rfl

/-- Settles O14: the record of each memory form is committed. -/
theorem memoryInstructionsComplete : Obligations.MemoryInstructionsComplete := by
  intro s m n v hs
  simp only [List.forall_mem_cons, List.not_mem_nil, false_imp_iff, implies_true, and_true, ← regNumber_eq,
    ← immediateLength_eq]
  and_intros <;> exact exec_eq_next_of_recordOf hs rfl

/-- Settles O15: the two reserved bindings are the ones the consumer's question names. -/
theorem reservedBindingsAreRefused : Obligations.ReservedBindingsAreRefused := by
  intro r
  unfold executionBinding
  refine ⟨?reserved, fun h1 h2 => ?given⟩
  case reserved => rintro (h | h) <;> rw [h]
  case given =>
    split
    next h => exact absurd h h1
    next h => exact absurd h h2
    next => rfl

end Sys2Proof.Machine
end

section
/-! The records of decoded words (41_decode.md R164 to R169). One lemma for each format says which record its instructions
have and which mnemonic the operation field selects; the extraction table and the binding table are read off. -/

namespace Sys2Proof.Machine

variable {w1 w2 w3 : Word} {i : Instr}

/-! ### One format at a time -/

theorem record_decodeImpliedA (hf : Starts w1 .impl1opA) (h : decodeImplied w1 = some i) (f : Fetch) :
    ∃ m, recordOf i f = some (impliedARecord f (w1.extractLsb' 0 3).toNat m) ∧
      ((w1.extractLsb' 0 3).toNat, m) ∈ [(0, ImpliedOp.hlt), (1, .sdbd), (2, .eis), (3, .dis)] := by
  have hlt : (w1.extractLsb' 0 3).toNat < 4 := by
    rw [starts_iff, InFormat] at hf
    rw [toNat_extractLsb'_eq]
    omega
  unfold decodeImplied at h
  split at h
  case h_1 hop | h_2 hop | h_3 hop | h_4 hop => rw [hop]; cases h; exact ⟨_, rfl, by simp⟩
  case h_5 | h_6 | h_7 => omega
  case h_8 => cases h

theorem record_decodeImpliedB (hf : Starts w1 .impl1opB) (h : decodeImplied w1 = some i) (f : Fetch) :
    ∃ m, recordOf i f = some (impliedBRecord f (w1.extractLsb' 0 3).toNat m) ∧
      ((w1.extractLsb' 0 3).toNat, m) ∈ [(5, ImpliedOp.tci), (6, .clrc), (7, .setc)] := by
  have hge : 5 ≤ (w1.extractLsb' 0 3).toNat := by
    rw [starts_iff, InFormat] at hf
    rw [toNat_extractLsb'_eq]
    omega
  unfold decodeImplied at h
  split at h
  case h_1 | h_2 | h_3 | h_4 => omega
  case h_5 hop | h_6 hop | h_7 hop => rw [hop]; cases h; exact ⟨_, rfl, by simp⟩
  case h_8 => cases h

theorem record_decodeReg1 (h : decodeReg1 w1 = some i) (f : Fetch) :
    ∃ m, recordOf i f = some (reg1Record f (w1.extractLsb' 3 3).toNat (w1.extractLsb' 0 3) m) ∧
      ((w1.extractLsb' 3 3).toNat, m) ∈
        [(1, Reg1Op.incr), (2, .decr), (3, .comr), (4, .negr), (5, .adcr), (7, .rswd)] := by
  unfold decodeReg1 at h
  split at h
  case h_7 => cases h
  all_goals next hop => rw [hop]; cases h; exact ⟨_, rfl, by simp⟩

theorem record_decodeNopSin (w1 : Word) (f : Fetch) :
    ∃ m, recordOf (decodeNopSin w1) f =
        some (nopSinRecord f (w1.extractLsb' 1 1).toNat (w1.extractLsb' 0 1) m) ∧
      ((w1.extractLsb' 1 1).toNat, m) ∈ [(0, NopSinOp.nop), (1, .sin)] := by
  unfold decodeNopSin
  split
  next hop => rw [hop]; exact ⟨_, rfl, by simp⟩
  next hop =>
    have hone : w1.extractLsb' 1 1 = 1#1 := BitVec.eq_of_toNat_eq (by
      have := mt BitVec.eq_of_toNat_eq hop
      have := (w1.extractLsb' 1 1).isLt
      simp only [BitVec.reduceToNat] at *
      omega)
    rw [hone]
    exact ⟨_, rfl, by simp⟩

theorem record_decodeRotate (h : decodeRotate w1 = some i) (f : Fetch) :
    ∃ m, recordOf i f =
        some (rotateRecord f (w1.extractLsb' 3 3).toNat (w1.extractLsb' 0 2) (w1.extractLsb' 2 1) m) ∧
      ((w1.extractLsb' 3 3).toNat, m) ∈
        [(0, RotateOp.swap), (1, .sll), (2, .rlc), (3, .sllc), (4, .slr), (5, .sar), (6, .rrc), (7, .sarc)] := by
  unfold decodeRotate at h
  split at h
  case h_9 => cases h
  all_goals next hop => rw [hop]; cases h; exact ⟨_, rfl, by simp⟩

/-- The table has TSTR in place of a MOVR that names one register twice (41_decode.md R168). -/
theorem record_decodeReg2 (h : decodeReg2 w1 = some i) (f : Fetch) :
    ∃ m, recordOf i f =
        some (reg2Record f (w1.extractLsb' 6 3).toNat (w1.extractLsb' 3 3) (w1.extractLsb' 0 3) m) ∧
      if (w1.extractLsb' 6 3).toNat = 2 ∧ w1.extractLsb' 3 3 = w1.extractLsb' 0 3 then m = .tstr
      else ((w1.extractLsb' 6 3).toNat, m) ∈
        [(2, Reg2Op.movr), (3, .addr), (4, .subr), (5, .cmpr), (6, .andr), (7, .xorr)] := by
  simp only [decodeReg2] at h
  split at h
  case h_1 hop =>
    rw [hop]
    split at h
    next hsd => cases h; exact ⟨_, by rw [hsd]; rfl, by simp [hsd]⟩
    next hsd => cases h; exact ⟨_, rfl, by simp [hsd]⟩
  case h_7 => cases h
  all_goals next hop => rw [hop]; cases h; exact ⟨_, rfl, by simp⟩

/-- The save register of the J family is 7 (41_decode.md R167). -/
theorem record_decodeJsr (h : decodeJsr w2 w3 = some i) (f : Fetch) :
    ∃ m, recordOf i f =
        some (jumpRecord f (w2.extractLsb' 0 2).toNat (saveRegister (w2.extractLsb' 8 2)) (jumpTarget w2 w3) m) ∧
      if w2.extractLsb' 8 2 = 3#2 then
        ((w2.extractLsb' 0 2).toNat, m) ∈ [(0, JumpOp.j), (1, .je), (2, .jd), (3, .jRsv)]
      else ((w2.extractLsb' 0 2).toNat, m) ∈ [(0, JumpOp.jsr), (1, .jsre), (2, .jsrd), (3, .jsrRsv)] := by
  simp only [decodeJsr] at h
  split at h
  case h_5 => cases h
  all_goals
    next hop =>
      rw [hop]
      split at h
      next hrr => cases h; exact ⟨_, by rw [hrr]; rfl, by simp [hrr]⟩
      next hrr => cases h; exact ⟨_, rfl, by simp [hrr]⟩

theorem record_decodeBranch (h : decodeBranch w1 w2 = some i) (f : Fetch) :
    ∃ m, recordOf i f =
        some (branchRecord f (w1.extractLsb' 4 1) (w1.extractLsb' 0 4) (directionOf w1) w2 m) ∧
      if w1.extractLsb' 4 1 = 1#1 then m = .bext
      else ((w1.extractLsb' 0 4).toNat, m) ∈ [(0, BranchOp.b), (1, .bc), (2, .bov), (3, .bpl), (4, .beq), (5, .blt),
        (6, .ble), (7, .busc), (8, .nopp), (9, .bnc), (10, .bnov), (11, .bmi), (12, .bneq), (13, .bge), (14, .bgt),
        (15, .besc)] := by
  simp only [decodeBranch] at h
  split at h
  next hx => rw [hx]; cases h; exact ⟨_, rfl, by simp⟩
  next hx =>
    have hzero : w1.extractLsb' 4 1 = 0#1 := BitVec.eq_of_toNat_eq (by
      have := mt BitVec.eq_of_toNat_eq hx
      have := (w1.extractLsb' 4 1).isLt
      simp only [BitVec.reduceToNat] at *
      omega)
    have hcond : w1.extractLsb' 0 4 = BitVec.ofNat 4 (w1.extractLsb' 0 4).toNat := by
      rw [BitVec.ofNat_toNat, BitVec.setWidth_eq]
    rw [hzero]
    split at h
    case h_17 => cases h
    all_goals
      next hop =>
        rw [hop] at hcond
        rw [hcond]
        cases h
        exact ⟨_, rfl, by simp⟩

/-- The mnemonics of the memory formats by their operation (41_decode.md R169). -/
def memOps : List (Nat × MemOp) :=
  [(1, MemOp.mvo), (2, .mvi), (3, .add), (4, .sub), (5, .cmp), (6, .and), (7, .xor)]

theorem record_decodeDirect (h : decodeDirect w1 w2 = some i) (f : Fetch) :
    ∃ m, recordOf i f = some (directRecord f (w1.extractLsb' 6 3).toNat (w1.extractLsb' 0 3) w2 m) ∧
      ((w1.extractLsb' 6 3).toNat, m) ∈ memOps := by
  unfold decodeDirect at h
  split at h
  case h_8 => cases h
  all_goals next hop => rw [hop]; cases h; exact ⟨_, rfl, by simp [memOps]⟩

theorem record_decodeIndirect (h : decodeIndirect w1 = some i) (f : Fetch) :
    ∃ m, recordOf i f =
        some (indirectRecord f (w1.extractLsb' 6 3).toNat (w1.extractLsb' 3 3) (w1.extractLsb' 0 3) m) ∧
      ((w1.extractLsb' 6 3).toNat, m) ∈ memOps := by
  unfold decodeIndirect at h
  split at h
  case h_8 => cases h
  all_goals next hop => rw [hop]; cases h; exact ⟨_, rfl, by simp [memOps]⟩

theorem record_decodeImmediate {imm : Word} (h : decodeImmediate w1 imm = some i) (f : Fetch) :
    ∃ m, recordOf i f = some (immediateRecord f (w1.extractLsb' 6 3).toNat (w1.extractLsb' 0 3) imm m) ∧
      ((w1.extractLsb' 6 3).toNat, m) ∈ memOps := by
  unfold decodeImmediate at h
  split at h
  case h_8 => cases h
  all_goals next hop => rw [hop]; cases h; exact ⟨_, rfl, by simp [memOps]⟩

/-! ### The record of fetched words -/

theorem recordOfWords_of_decodesTo {f : Fetch} {rest : List Word}
    (h : DecodesTo (prevIsSdbd f.lookback) f.words i rest) : recordOfWords f = recordOf i f := by
  rw [recordOfWords, decodeWords_of_decodesTo h]

theorem recordOfWords_eq_some {f : Fetch} {r : DecodedRecord} (h : recordOfWords f = some r) :
    ∃ i rest, DecodesTo (prevIsSdbd f.lookback) f.words i rest ∧ recordOf i f = some r := by
  unfold recordOfWords at h
  split at h
  next i rest hd => exact ⟨i, rest, decodesTo_of_decodeWords hd, h⟩
  next => cases h

/-- What is decoded needs only the words its length counts. -/
theorem decodesTo_take {sdbd : Bool} {ws rest : List Word} (h : DecodesTo sdbd (w1 :: ws) i rest) :
    DecodesTo sdbd ((w1 :: ws).take (instrLength sdbd w1)) i [] := by
  cases h with
  | impliedA hf h => rw [instrLength_of_starts hf]; exact .impliedA hf h
  | impliedB hf h => rw [instrLength_of_starts hf]; exact .impliedB hf h
  | reg1 hf h => rw [instrLength_of_starts hf]; exact .reg1 hf h
  | gswd hf => rw [instrLength_of_starts hf]; exact .gswd hf
  | nopSin hf => rw [instrLength_of_starts hf]; exact .nopSin hf
  | rotate hf h => rw [instrLength_of_starts hf]; exact .rotate hf h
  | reg2 hf h => rw [instrLength_of_starts hf]; exact .reg2 hf h
  | indirect hf h => rw [instrLength_of_starts hf]; exact .indirect hf h
  | branch hf h => rw [instrLength_of_starts hf]; exact .branch hf h
  | direct hf h => rw [instrLength_of_starts hf]; exact .direct hf h
  | jsr hf h => rw [instrLength_of_starts hf]; exact .jsr hf h
  | immediate hf hs h => subst hs; rw [instrLength_of_starts hf]; exact .immediate hf rfl h
  | immediateSdbd hf hs h => subst hs; rw [instrLength_of_starts hf]; exact .immediateSdbd hf rfl h

/-! ### The extraction table -/

/-- The lookback that the extraction table compares with SDBD's word. -/
theorem toNat_jumpTarget (w2 w3 : Word) :
    (jumpTarget w2 w3).toNat = (w2.extractLsb' 2 6).toNat * 1024 + (w3.extractLsb' 0 10).toNat :=
  toNat_append_eq _ _

theorem toNat_sdbdImmediate (w2 w3 : Word) :
    (sdbdImmediate w2 w3).toNat = (w2.extractLsb' 0 8).toNat + (w3.extractLsb' 0 8).toNat * 256 :=
  (toNat_append_eq _ _).trans (Nat.add_comm _ _)

theorem toNat_rotateCount (k : BitVec 1) : (rotateCount k).toNat = k.toNat + 1 := by
  rw [rotateCount_eq, BitVec.toNat_ofNat]
  omega

theorem val_saveRegister (rr : BitVec 2) : (saveRegister rr).val = 4 + rr.toNat := by
  rw [saveRegister_eq, Fin.val_ofNat]
  omega

theorem directionOf_eq_ite (w : Word) : directionOf w = if w.getLsbD 5 then .backward else .forward := by
  have hbit : w.extractLsb' 5 1 = 1#1 ↔ w.getLsbD 5 = true := by
    rw [BitVec.eq_of_getLsbD_eq_iff]
    simp
  simp only [directionOf, hbit]

theorem val_directionNumber (w : Word) : (directionNumber (directionOf w)).val = (w.extractLsb' 5 1).toNat := by
  have h := toNat_directionOf w
  rw [toNat_extractLsb'_eq]
  show BitVec.toNat (BitVec.setWidth 3 _) = _
  rw [BitVec.toNat_setWidth_of_le (by decide), h]
  rfl

theorem branchTarget_directionOf (a w disp : Word) :
    branchTarget a (directionOf w) disp = a + 2#16 + (if w.getLsbD 5 then ~~~disp else disp) := by
  rw [branchTarget_eq, directionOf_eq_ite]
  cases w.getLsbD 5 <;> rfl

theorem toNat_branchOp (w : Word) : (w.extractLsb' 4 1 ++ w.extractLsb' 0 4).toNat = (w.extractLsb' 0 5).toNat := by
  simp only [branchOp_eq, toNat_extractLsb'_eq]
  omega

/-- Settles O7: the record of each format, found by the format's lemma, shows its fields. -/
theorem extractionTable : Obligations.ExtractionTable := by
  intro a lookback w1 w2 w3 hw
  obtain ⟨i, rest, h⟩ := exists_decodesTo (prevIsSdbd lookback) (isWeeds_eq_false_iff_extract.mpr hw) w2 w3
  have hrec : recordOfWords ⟨a, lookback, [w1, w2, w3].take (instrLength (prevIsSdbd lookback) w1)⟩ = _ :=
    recordOfWords_of_decodesTo (decodesTo_take h)
  change recordOfWords ⟨a, lookback, [w1, w2, w3].take (instrLength (lookback == 0x0001#16) w1)⟩ = _ at hrec
  rw [hrec]
  cases h with
  | impliedA hf h =>
    obtain ⟨m, hr, -⟩ := record_decodeImpliedA hf h _
    exact ⟨_, hr, rfl, rfl, rfl, hf.2.symm, by rw [instrLength_of_starts hf]; rfl, rfl, rfl, rfl, rfl, rfl, rfl⟩
  | impliedB hf h =>
    obtain ⟨m, hr, -⟩ := record_decodeImpliedB hf h _
    exact ⟨_, hr, rfl, rfl, rfl, hf.2.symm, by rw [instrLength_of_starts hf]; rfl, rfl, rfl, rfl, rfl, rfl, rfl⟩
  | reg1 hf h =>
    obtain ⟨m, hr, -⟩ := record_decodeReg1 h _
    exact ⟨_, hr, rfl, rfl, rfl, hf.2.symm, by rw [instrLength_of_starts hf]; rfl, rfl, rfl, rfl, rfl, rfl, rfl⟩
  | gswd hf =>
    exact ⟨_, rfl, rfl, rfl, rfl, hf.2.symm, by rw [instrLength_of_starts hf]; rfl, rfl, rfl,
      BitVec.toNat_setWidth_of_le (by decide), rfl, rfl, rfl⟩
  | nopSin hf =>
    obtain ⟨m, hr, -⟩ := record_decodeNopSin w1 _
    exact ⟨_, hr, rfl, rfl, rfl, hf.2.symm, by rw [instrLength_of_starts hf]; rfl, rfl, rfl, rfl, rfl,
      BitVec.toNat_setWidth_of_le (by decide), rfl⟩
  | rotate hf h =>
    obtain ⟨m, hr, -⟩ := record_decodeRotate h _
    exact ⟨_, hr, rfl, rfl, rfl, hf.2.symm, by rw [instrLength_of_starts hf]; rfl, rfl, rfl,
      BitVec.toNat_setWidth_of_le (by decide), rfl, toNat_rotateCount _, rfl⟩
  | reg2 hf h =>
    obtain ⟨m, hr, -⟩ := record_decodeReg2 h _
    exact ⟨_, hr, rfl, rfl, rfl, hf.2.symm, by rw [instrLength_of_starts hf]; rfl, rfl, rfl, rfl, rfl, rfl, rfl⟩
  | indirect hf h =>
    obtain ⟨m, hr, -⟩ := record_decodeIndirect h _
    exact ⟨_, hr, rfl, rfl, rfl, hf.2.symm, by rw [instrLength_of_starts hf]; rfl, rfl, rfl, rfl, rfl, rfl, rfl⟩
  | branch hf h =>
    obtain ⟨m, hr, -⟩ := record_decodeBranch h _
    exact ⟨_, hr, rfl, rfl, rfl, hf.2.symm, by rw [instrLength_of_starts hf]; rfl, rfl, toNat_branchOp w1,
      val_directionNumber w1, rfl, branchTarget_directionOf a w1 w2, rfl⟩
  | direct hf h =>
    obtain ⟨m, hr, -⟩ := record_decodeDirect h _
    exact ⟨_, hr, rfl, rfl, rfl, hf.2.symm, by rw [instrLength_of_starts hf]; rfl, rfl, rfl, rfl, rfl, rfl, rfl⟩
  | jsr hf h =>
    obtain ⟨m, hr, -⟩ := record_decodeJsr h _
    exact ⟨_, hr, rfl, rfl, rfl, hf.2.symm, by rw [instrLength_of_starts hf]; rfl, rfl, rfl, val_saveRegister _, rfl,
      toNat_jumpTarget w2 w3, rfl⟩
  | immediate hf hs h =>
    obtain ⟨m, hr, -⟩ := record_decodeImmediate h _
    have hlb : lookback ≠ 0x0001#16 := beq_eq_false_iff_ne.mp hs
    refine ⟨_, hr, rfl, rfl, rfl, hf.2.symm, by rw [instrLength_of_starts hf]; rfl, rfl, rfl, rfl, rfl, ?_⟩
    rw [if_neg hlb]
    exact ⟨by simp [immediateRecord, recordOfFetch, hs]; rfl, rfl⟩
  | immediateSdbd hf hs h =>
    obtain ⟨m, hr, -⟩ := record_decodeImmediate h _
    have hlb : lookback = 0x0001#16 := beq_iff_eq.mp hs
    refine ⟨_, hr, rfl, rfl, rfl, hf.2.symm, by rw [instrLength_of_starts hf]; rfl, rfl, rfl, rfl, rfl, ?_⟩
    rw [if_pos hlb]
    exact ⟨by simp [immediateRecord, recordOfFetch, hs]; rfl, toNat_sdbdImmediate w2 w3⟩

/-! ### The binding table -/

theorem regNumber_inj {m n : BitVec 3} : regNumber m = regNumber n ↔ m = n := by
  rw [← Fin.val_inj]
  exact BitVec.toNat_inj

theorem pcdst_eq (d : BitVec 3) : pcdst d = decide ((regNumber d).val = 7) :=
  decide_eq_decide.mpr (BitVec.toNat_inj (y := 7#3)).symm

theorem pcsrc_eq (s d : BitVec 3) :
    pcsrc s d = decide ((regNumber s).val = 7 ∧ (regNumber d).val ≠ 7) := by
  rw [pcsrc, Bool.decide_and, decide_not, ← pcdst_eq, ← pcdst_eq]
  rfl

theorem saveRegister_eq_seven_iff (rr : BitVec 2) : (saveRegister rr).val = 7 ↔ rr = 3#2 := by
  rw [val_saveRegister, ← BitVec.toNat_inj, BitVec.toNat_ofNat]
  omega

/-- Settles O8: the record of each format carries the mnemonic its operation selects. -/
theorem bindingTable : Obligations.BindingTable := by
  intro f r hr
  obtain ⟨i, rest, h, hi⟩ := recordOfWords_eq_some hr
  clear hr
  generalize hws : f.words = ws at h
  cases h with
  | impliedA hf h =>
    obtain ⟨m, hm, hop⟩ := record_decodeImpliedA hf h f
    cases hm.symm.trans hi
    exact ⟨m, rfl, hop⟩
  | impliedB hf h =>
    obtain ⟨m, hm, hop⟩ := record_decodeImpliedB hf h f
    cases hm.symm.trans hi
    exact ⟨m, rfl, hop⟩
  | reg1 hf h =>
    obtain ⟨m, hm, hop⟩ := record_decodeReg1 h f
    cases hm.symm.trans hi
    exact ⟨m, rfl, hop⟩
  | gswd hf => cases hi; rfl
  | nopSin hf =>
    obtain ⟨m, hm, hop⟩ := record_decodeNopSin _ f
    cases hm.symm.trans hi
    exact ⟨m, rfl, hop⟩
  | rotate hf h =>
    obtain ⟨m, hm, hop⟩ := record_decodeRotate h f
    cases hm.symm.trans hi
    exact ⟨m, rfl, hop⟩
  | reg2 hf h =>
    obtain ⟨m, hm, hop⟩ := record_decodeReg2 h f
    cases hm.symm.trans hi
    refine ⟨m, congrArg₂ (Binding.reg2op m) (pcdst_eq _) (pcsrc_eq _ _), ?_⟩
    simp only [reg2Record, recordOfFetch, regNumber_inj]
    exact hop
  | indirect hf h =>
    obtain ⟨m, hm, hop⟩ := record_decodeIndirect h f
    cases hm.symm.trans hi
    exact ⟨m, rfl, hop⟩
  | branch hf h =>
    obtain ⟨m, hm, hop⟩ := record_decodeBranch h f
    cases hm.symm.trans hi
    exact ⟨m, _, _, rfl, branchOp_eq _ _, hop⟩
  | direct hf h =>
    obtain ⟨m, hm, hop⟩ := record_decodeDirect h f
    cases hm.symm.trans hi
    exact ⟨m, rfl, hop⟩
  | jsr hf h =>
    obtain ⟨m, hm, hop⟩ := record_decodeJsr h f
    cases hm.symm.trans hi
    refine ⟨m, rfl, ?_⟩
    simp only [jumpRecord, recordOfFetch, saveRegister_eq_seven_iff]
    exact hop
  | immediate hf hs h | immediateSdbd hf hs h =>
    obtain ⟨m, hm, hop⟩ := record_decodeImmediate h f
    cases hm.symm.trans hi
    exact ⟨m, rfl, hop⟩

/-- What every record of fetched words says of the fetch. -/
theorem recordOfWords_fields {f : Fetch} {r : DecodedRecord} (h : recordOfWords f = some r) :
    r.addr = f.addr ∧ r.lookback = f.lookback ∧ r.words = f.words ∧ r.sdbd = prevIsSdbd f.lookback := by
  obtain ⟨i, rest, -, hi⟩ := recordOfWords_eq_some h
  cases i <;> cases hi <;> exact ⟨rfl, rfl, rfl, rfl⟩

theorem len_recordOf {f : Fetch} {r : DecodedRecord} (hi : recordOf i f = some r) :
    r.len = lengthWith (prevIsSdbd f.lookback) r.fmt := by
  cases i <;> cases hi <;> rfl

/-- The format of a record is that of the first word. -/
theorem fmt_recordOf {sdbd : Bool} {ws rest : List Word} {f : Fetch} {r : DecodedRecord}
    (h : DecodesTo sdbd (w1 :: ws) i rest) (hi : recordOf i f = some r) : r.fmt = classify (opcodeOf w1) := by
  cases h with
  | impliedA hf h => obtain ⟨m, hm, -⟩ := record_decodeImpliedA hf h f; cases hm.symm.trans hi; exact hf.2.symm
  | impliedB hf h => obtain ⟨m, hm, -⟩ := record_decodeImpliedB hf h f; cases hm.symm.trans hi; exact hf.2.symm
  | reg1 hf h => obtain ⟨m, hm, -⟩ := record_decodeReg1 h f; cases hm.symm.trans hi; exact hf.2.symm
  | gswd hf => cases hi; exact hf.2.symm
  | nopSin hf => obtain ⟨m, hm, -⟩ := record_decodeNopSin w1 f; cases hm.symm.trans hi; exact hf.2.symm
  | rotate hf h => obtain ⟨m, hm, -⟩ := record_decodeRotate h f; cases hm.symm.trans hi; exact hf.2.symm
  | reg2 hf h => obtain ⟨m, hm, -⟩ := record_decodeReg2 h f; cases hm.symm.trans hi; exact hf.2.symm
  | indirect hf h => obtain ⟨m, hm, -⟩ := record_decodeIndirect h f; cases hm.symm.trans hi; exact hf.2.symm
  | branch hf h => obtain ⟨m, hm, -⟩ := record_decodeBranch h f; cases hm.symm.trans hi; exact hf.2.symm
  | direct hf h => obtain ⟨m, hm, -⟩ := record_decodeDirect h f; cases hm.symm.trans hi; exact hf.2.symm
  | jsr hf h => obtain ⟨m, hm, -⟩ := record_decodeJsr h f; cases hm.symm.trans hi; exact hf.2.symm
  | immediate hf _ h | immediateSdbd hf _ h =>
    obtain ⟨m, hm, -⟩ := record_decodeImmediate h f
    cases hm.symm.trans hi
    exact hf.2.symm

/-- The length of a record is the one its first word gives (41_decode.md R164). -/
theorem len_recordOfWords {f : Fetch} {r : DecodedRecord} {ws : List Word} (h : recordOfWords f = some r)
    (hws : f.words = w1 :: ws) : r.len = instrLength (prevIsSdbd f.lookback) w1 := by
  obtain ⟨i, rest, hd, hi⟩ := recordOfWords_eq_some h
  rw [hws] at hd
  rw [len_recordOf hi, fmt_recordOf hd hi, instrLength]

/-- What decodes has a record. -/
theorem exists_recordOf_of_decodesTo {sdbd : Bool} {ws rest : List Word} (h : DecodesTo sdbd ws i rest) (f : Fetch) :
    ∃ r, recordOf i f = some r := by
  obtain ⟨-, w1, used, again, -, -, henc, -⟩ :=
    decodedInstructionEncodesBack sdbd ws rest i (decodeWords_of_decodesTo h)
  rw [← Option.isSome_iff_exists, isSome_recordOf sdbd, henc, Option.isSome_some]

end Sys2Proof.Machine
end

section
/-! The decode transaction (41_decode.md) and the bus reads (43_locutus_bus.md R300 to R302, R317, R318). Each exit of a
read is one equation of `exec`; a decode is the reads it makes, then one record. -/

namespace Sys2Proof.Machine

variable {s t : State} {a : Word} {force : Bool}

/-! ### The latch -/

/-- Every transaction is guarded by the latch. -/
theorem runRequest_of_fault {r : FaultRecord} (h : s.fault = some r) (q : Request) :
    runRequest q s = .fault (.faulted r) := by
  cases q with
  | crcByte dir => cases dir <;> exact running_of_fault h _
  | _ => exact running_of_fault h _

/-- Settles O18: what has a record and what is a transaction are both guarded by the latch. -/
theorem latchedFaultStopsEverything : Obligations.LatchedFaultStopsEverything := by
  intro s r i hs
  obtain hrec | ⟨q, hq⟩ := exists_record_or_request i
  · obtain ⟨d, hd⟩ := hrec s.fetch
    rw [exec_of_recordOf hd]
    exact running_of_fault hs _
  · rw [exec_of_encodeRequest hq]
    exact runRequest_of_fault hs q

/-! ### The exits of a read -/

theorem exec_busRead (hs : s.fault = none) : exec (.busRead a force) s = finish .word (busRead a force s) :=
  running_of_ok hs _

theorem exec_busRead_of_ok {w : Word} (hs : s.fault = none) (h : busRead a force s = .ok w t) :
    exec (.busRead a force) s = .next { t with response := .word w } := by
  rw [exec_busRead hs, h, finish_ok]

theorem busRead_stalled (hs : 0 < s.jlpSleep) : busRead a force s = .ok sentinel (stall (mixRng a s)) := by
  rw [busRead_exits, if_pos hs]

theorem busRead_fixed (hs : s.jlpSleep = 0) (ha : fixedUnmapped a = true) :
    busRead a force s = .ok sentinel (mixRng a s) := by
  rw [busRead_exits, if_neg (by omega), if_pos ha]

theorem busRead_jlp (hs : s.jlpSleep = 0) (ha : fixedUnmapped a = false)
    (hj : (s.jlpAccelOn && jlpReadWindow a) = true) : busRead a force s = jlpRead a (mixRng a s) := by
  rw [busRead_exits, if_neg (by omega), if_neg (by simp [ha]), if_pos hj]

theorem busRead_translated (hs : s.jlpSleep = 0) (ha : fixedUnmapped a = false)
    (hj : (s.jlpAccelOn && jlpReadWindow a) = false) :
    busRead a force s =
      if permR (activePerm s a) || force then ramRead (phys s a) (mixRng a s) else .ok sentinel (mixRng a s) := by
  rw [busRead_exits, if_neg (by omega), if_neg (by simp [ha]), if_neg (by simp [hj])]

theorem fixedUnmapped_iff :
    fixedUnmapped a = true ↔
      a.toNat ≤ 0x04FF ∨ 0x1000 ≤ a.toNat ∧ a.toNat ≤ 0x1FFF ∨ 0x3000 ≤ a.toNat ∧ a.toNat ≤ 0x47FF := by
  simp only [fixedUnmapped, Bool.or_eq_true, Bool.and_eq_true, decide_eq_true_eq, BitVec.lt_def, BitVec.le_def,
    BitVec.reduceToNat]
  omega

theorem jlpReadWindow_iff :
    jlpReadWindow a = true ↔ 0x8000 ≤ a.toNat ∧ a.toNat ≤ 0x803F ∨ 0x9F80 ≤ a.toNat ∧ a.toNat ≤ 0x9FFF := by
  simp only [jlpReadWindow, Bool.or_eq_true, Bool.and_eq_true, decide_eq_true_eq, BitVec.le_def, BitVec.reduceToNat]

theorem jlpWriteWindow_iff :
    jlpWriteWindow a = true ↔ 0x8000 ≤ a.toNat ∧ a.toNat ≤ 0x803F ∨ 0x9F80 ≤ a.toNat ∧ a.toNat ≤ 0x9FFE := by
  simp only [jlpWriteWindow, Bool.or_eq_true, Bool.and_eq_true, decide_eq_true_eq, BitVec.le_def, BitVec.reduceToNat]

/-- No address of the JLP windows lies in a fixed window. -/
theorem fixedUnmapped_of_jlpReadWindow (h : jlpReadWindow a = true) : fixedUnmapped a = false := by
  rw [jlpReadWindow_iff] at h
  rw [Bool.eq_false_iff, ne_eq, fixedUnmapped_iff]
  omega

/-- Settles O24: the two exits that give the sentinel. -/
theorem stalledAndFixedReads : Obligations.StalledAndFixedReads := by
  intro s a force hs
  refine ⟨fun hsleep => ?stalled, fun hsleep ha => ?fixed⟩
  case stalled => exact exec_busRead_of_ok hs (busRead_stalled hsleep)
  case fixed => exact exec_busRead_of_ok hs (busRead_fixed hsleep (fixedUnmapped_iff.mpr ha))

/-- Settles O25: the translated exit, with the store's own bound. -/
theorem translatedReads : Obligations.TranslatedReads := by
  intro s a force hs ha hj
  rw [exec_busRead hs.1, busRead_translated hs.2 ha hj]
  by_cases hread : permR (activePerm s a) = true ∨ force = true
  · rw [if_pos (Bool.or_eq_true _ _ ▸ hread), ramRead]
    refine Eq.trans ?_ (if_pos hread).symm
    by_cases hpa : phys s a < ramWords
    · rw [if_pos hpa]
      exact (if_pos hpa).symm
    · rw [if_neg hpa]
      exact (if_neg hpa).symm
  · rw [if_neg (Bool.or_eq_true _ _ ▸ hread)]
    exact (if_neg hread).symm

/-- Settles O26: only the translated exit looks at `force`, and only where R is clear. -/
theorem forceBypassesOnlyR : Obligations.ForceBypassesOnlyR := by
  intro s a
  by_cases hexit : s.quiet ∧ fixedUnmapped a = false ∧ (s.jlpAccelOn && jlpReadWindow a) = false ∧
    permR (activePerm s a) = false
  case pos =>
    obtain ⟨hs, ha, hj, hp⟩ := hexit
    refine .inr ⟨hs, ha, hj, hp, exec_busRead_of_ok hs.1 ?_⟩
    rw [busRead_translated hs.2 ha hj, hp]
    rfl
  case neg =>
    refine .inl ?_
    cases hfault : s.fault with
    | some r => rw [latchedFaultStopsEverything s r _ hfault, latchedFaultStopsEverything s r _ hfault]
    | none =>
      have hsame : busRead a true s = busRead a false s := by
        simp only [busRead_exits]
        split_ifs <;> simp_all [State.quiet]
      rw [exec_busRead hfault, exec_busRead hfault, hsame]

/-- Where Peek answers, a plain read gives its word and mixes the generator. -/
theorem busRead_of_peek {w : Word} (h : peek s a = some w) : busRead a false s = .ok w (mixRng a s) := by
  unfold peek at h
  split at h
  · cases h
  next hsleep =>
    rw [busRead_exits, if_neg hsleep]
    split at h
    next ha => cases h; rw [if_pos ha]
    next ha =>
      rw [if_neg ha]
      split at h
      · cases h
      next hj =>
        rw [if_neg hj, Bool.or_false]
        split at h
        next hp =>
          rw [if_pos hp, ramRead]
          split at h
          next hlt => cases h; rw [if_pos hlt]; rfl
          next => cases h
        next hp => cases h; rw [if_neg hp]

/-- Settles O29: a read where Peek answers. -/
theorem peekPredictsRead : Obligations.PeekPredictsRead :=
  fun _ _ _ hs h => exec_busRead_of_ok hs (busRead_of_peek h)

/-! ### The registers of the JLP -/

theorem extractLsb'_low4_jlpRegAddr (i : BitVec 4) : (jlpRegAddr i).extractLsb' 0 4 = i :=
  extractLsb'_append_low _ i

theorem extractLsb'_low4_extRegAddr (i : BitVec 4) : (extRegAddr i).extractLsb' 0 4 = i :=
  extractLsb'_append_low _ i

theorem inJlpRegisters_iff : inJlpRegisters a = true ↔ a.toNat / 16 = 0x9F8 := by
  have ha := a.isLt
  rw [inJlpRegisters, beq_iff_eq, extractLsb'_eq_ofNat_iff]
  omega

theorem inExtRegisters_iff : inExtRegisters a = true ↔ a.toNat / 16 = 0x9F9 := by
  have ha := a.isLt
  rw [inExtRegisters, beq_iff_eq, extractLsb'_eq_ofNat_iff]
  omega

/-- The read chain with each condition a condition on the number of the address. -/
theorem jlpRead_eq_ite (a : Word) (s : State) : jlpRead a s =
    if a.toNat / 16 = 0x9F8 then .ok (jlpRegister s (a.extractLsb' 0 4)) s
    else if a.toNat / 16 = 0x9F9 ∧ s.params.extRegsWired = true then .ok (vecGet s.ext (a.extractLsb' 0 4)) s
    else if a.toNat = 0x9FFD then .ok s.jlpCrc s
    else if a.toNat = 0x9FFE then rngNext s
    else drawWord s := by
  simp only [jlpRead, inJlpRegisters_iff, Bool.and_eq_true, inExtRegisters_iff, word_eq_iff, Nat.reducePow,
    Nat.reduceMod]

/-- With the accelerator on, a read in its window is its register file's. -/
theorem exec_busRead_jlp (hs : s.quiet) (hon : s.jlpAccelOn = true) (ha : jlpReadWindow a = true) :
    exec (.busRead a force) s = finish .word (jlpRead a (mixRng a s)) := by
  rw [exec_busRead hs.1, busRead_jlp hs.2 (fixedUnmapped_of_jlpReadWindow ha) (by rw [hon, ha]; rfl)]

/-- Settles O27: each row is the read at its address, and the chain decides which register that is. -/
theorem jlpRegisterReads : Obligations.JlpRegisterReads := by
  intro s i force hs hon
  have hread (a : Word) (ha : 0x8000 ≤ a.toNat ∧ a.toNat ≤ 0x803F ∨ 0x9F80 ≤ a.toNat ∧ a.toNat ≤ 0x9FFF) :
      exec (.busRead a force) s = finish .word (jlpRead a (mixRng a s)) :=
    exec_busRead_jlp hs hon (jlpReadWindow_iff.mpr ha)
  have hi := i.isLt
  have hreg := toNat_jlpRegAddr i
  have hext := toNat_extRegAddr i
  refine ⟨?register, fun hwired => ?wired, ?crc, ?random, fun hwired => ?unwired, fun a ha => ?none⟩
  case register =>
    refine (hread (jlpRegAddr i) (by omega)).trans ?_
    rw [jlpRead_eq_ite, if_pos (by omega), extractLsb'_low4_jlpRegAddr]
    rfl
  case wired =>
    refine (hread (extRegAddr i) (by omega)).trans ?_
    rw [jlpRead_eq_ite, if_neg (by omega), if_pos ⟨by omega, hwired⟩, extractLsb'_low4_extRegAddr]
    rfl
  case crc => exact hread 0x9FFD#16 (by decide)
  case random => exact hread 0x9FFE#16 (by decide)
  case unwired =>
    refine (hread (extRegAddr i) (by omega)).trans ?_
    rw [jlpRead_eq_ite, if_neg (by omega), if_neg (by simp [hwired]), if_neg (by omega), if_neg (by omega)]
    rfl
  case none =>
    have hnum : a = 0x9FFF#16 ↔ a.toNat = 0x9FFF := word_eq_iff a 0x9FFF
    rw [hnum] at ha
    rw [hread a (by omega), jlpRead_eq_ite, if_neg (by omega), if_neg (by omega), if_neg (by omega), if_neg (by omega)]
    rfl

end Sys2Proof.Machine
end

section
/-! The decode transaction (41_decode.md): a hit is checked against Peek, a miss makes the reads of its length and ends in
the hook, in a WeedsFault or in one committed record. -/

namespace Sys2Proof.Machine

variable {s t : State} {a : Word}

/-! ### A miss -/

theorem exec_decode_miss (hs : s.fault = none) (hc : cached s a = none) : exec (.decode a) s = decodeMiss a s := by
  refine (running_of_ok hs _).trans ?_
  rw [hc]

theorem isWeeds_iff {w : Word} : isWeeds w = true ↔ w.extractLsb' 10 6 ≠ 0#6 := bne_iff_ne

/-- A first word with bits above the opcode ends the fetch. -/
theorem fetchWords_weeds {w1 : Word} {s1 : State} (hr : busRead a false s = .ok w1 s1) (hw : isWeeds w1 = true) :
    fetchWords a s = if s1.params.hookPresent then .ok .hook s1 else .raise (.weeds a w1) s1 := by
  rw [fetchWords, hr, andThen_ok, if_pos hw]

/-- The words of a fetch that no fault ends. -/
theorem fetchWords_words {w1 lookback : Word} {ws : List Word} {s1 s2 s3 : State}
    (hr : busRead a false s = .ok w1 s1) (hw : isWeeds w1 = false)
    (hlb : busRead (a - 1#16) false s1 = .ok lookback s2)
    (hrest : fetchRest a (instrLength (prevIsSdbd lookback) w1) s2 = .ok ws s3) :
    fetchWords a s = .ok (.words ⟨a, lookback, w1 :: ws⟩) s3 := by
  rw [fetchWords, hr, andThen_ok, if_neg (by simp [hw]), hlb, andThen_ok, hrest, andThen_ok]

theorem decodeMiss_words {f : Fetch} {r : DecodedRecord} (h : fetchWords a s = .ok (.words f) t)
    (hr : recordOfWords f = some r) : decodeMiss a s = .next (commitRecord r t) := by
  simp only [decodeMiss, h, hr]

/-- A weeds word: the hook, or the fault. -/
theorem decodeMiss_weeds {w1 : Word} {s1 : State} (hr : busRead a false s = .ok w1 s1) (hw : isWeeds w1 = true) :
    decodeMiss a s =
      if s.params.hookPresent then .next { s1 with response := .hookTransfer a }
      else .next { s1 with fault := some (.weeds a w1), response := .raised (.weeds a w1) } := by
  have hparams : s1.params = s.params := by rw [busRead_eq_ok hr]
  rw [decodeMiss, fetchWords_weeds hr hw, ← hparams]
  cases s1.params.hookPresent <;> rfl

/-- Settles O21: the fetch ends at the first word. -/
theorem weedsWordFaultsOrGoesToHook : Obligations.WeedsWordFaultsOrGoesToHook := by
  intro s s1 a w1 hs hc hr hw
  rw [exec_decode_miss hs hc, decodeMiss_weeds hr (isWeeds_iff.mpr hw)]

/-- The reads of a fetch leave the latch. -/
theorem fault_of_fetchFrame (h : FetchFrame s t) : t.fault = s.fault := by rw [h.1]

/-- Settles O17: the decode makes the named reads, and the record it commits is the meaning of the instruction. -/
theorem stepRunsDecodedInstruction : Obligations.StepRunsDecodedInstruction := by
  intro s s1 s2 s3 a w1 lookback ws rest i hq hs hc hr hw hlb hrest hdec
  have hd := decodesTo_of_decodeWords hdec
  obtain ⟨r, hi⟩ := exists_recordOf_of_decodesTo hd ⟨a, lookback, w1 :: ws⟩
  have hs0 : ({ s with requests := rest } : State).fault = none := hs
  have hc0 : cached { s with requests := rest } a = none := hc
  rw [step_cons hq]
  change exec (.decode a) _ = _
  generalize ({ s with requests := rest } : State) = s0 at hs0 hc0 hr ⊢
  have hs3 : s3.fault = none := by
    rw [fault_of_fetchFrame ((fetches_fetchRest a _).1 _ _ hrest), fault_of_fetchFrame (FetchFrame_busRead hlb),
      fault_of_fetchFrame (FetchFrame_busRead hr), hs0]
  calc exec (.decode a) s0 = decodeMiss a s0 := exec_decode_miss hs0 hc0
    _ = .next (commitRecord r s3) :=
      decodeMiss_words (fetchWords_words hr hw hlb hrest) ((recordOfWords_of_decodesTo hd).trans hi)
    _ = exec i { s3 with fetch := ⟨a, lookback, w1 :: ws⟩ } :=
      (exec_eq_next_of_recordOf (s := { s3 with fetch := ⟨a, lookback, w1 :: ws⟩ }) hs3 hi).symm

/-! ### Reads that Peek predicts -/

/-- n bus reads have mixed the generator and drawn n times. -/
def MixedBy (n : Nat) (s t : State) : Prop := t = { s with jlpRng := t.jlpRng, draws := s.draws + n }

theorem mixedBy_mixRng (a : Word) (s : State) : MixedBy 1 s (mixRng a s) := rfl

theorem MixedBy.trans {m n : Nat} {u : State} (h : MixedBy m s t) (h' : MixedBy n t u) : MixedBy (m + n) s u := by
  rw [MixedBy] at *
  rw [h', h]
  simp [Nat.add_assoc]

theorem peek_of_mixedBy {n : Nat} (h : MixedBy n s t) (b : Word) : peek t b = peek s b := by
  rw [h]
  rfl

theorem instrLength_mem (sdbd : Bool) (w : Word) : instrLength sdbd w ∈ [1, 2, 3] := by
  unfold instrLength
  cases classify (opcodeOf w) <;> cases sdbd <;> decide

/-- The later words of an instruction, where Peek knows them. -/
theorem fetchRest_of_peek {w2 w3 : Word} {len : Nat} (hlen : len ∈ [1, 2, 3]) (h2 : peek s (a + 1#16) = some w2)
    (h3 : peek s (a + 2#16) = some w3) :
    ∃ t, fetchRest a len s = .ok ([w2, w3].take (len - 1)) t ∧ MixedBy (len - 1) s t := by
  have hr2 := busRead_of_peek h2
  have hr3 := busRead_of_peek ((peek_of_mixedBy (mixedBy_mixRng (a + 1#16) s) (a + 2#16)).trans h3)
  simp only [List.mem_cons, List.not_mem_nil, or_false] at hlen
  obtain rfl | rfl | rfl := hlen
  · exact ⟨s, rfl, rfl⟩
  · exact ⟨mixRng (a + 1#16) s, by simp [fetchRest, hr2], rfl⟩
  · exact ⟨mixRng (a + 2#16) (mixRng (a + 1#16) s), by simp [fetchRest, hr2, hr3], rfl⟩

/-- Settles O19: the four peeks predict the reads, and the record of the words is committed at the address. -/
theorem decodeMissCachesRecord : Obligations.DecodeMissCachesRecord := by
  intro s a w1 lookback w2 w3 hs hc h1 hlb h2 h3 hw
  have hmix1 := mixedBy_mixRng a s
  have hmix2 := hmix1.trans (mixedBy_mixRng (a - 1#16) (mixRng a s))
  have hlen := instrLength_mem (prevIsSdbd lookback) w1
  obtain ⟨u, hrest, hu⟩ := fetchRest_of_peek hlen ((peek_of_mixedBy hmix2 _).trans h2) ((peek_of_mixedBy hmix2 _).trans h3)
  have hmixed := hmix2.trans hu
  have htake : w1 :: [w2, w3].take (instrLength (prevIsSdbd lookback) w1 - 1) =
      [w1, w2, w3].take (instrLength (prevIsSdbd lookback) w1) := by
    simp only [List.mem_cons, List.not_mem_nil, or_false] at hlen
    obtain h | h | h := hlen <;> rw [h] <;> rfl
  have hfetch := fetchWords_words (busRead_of_peek h1) (isWeeds_eq_false_iff_extract.mpr hw)
    (busRead_of_peek ((peek_of_mixedBy hmix1 _).trans hlb)) hrest
  rw [htake] at hfetch
  obtain ⟨r, hr, haddr, -⟩ := extractionTable a lookback w1 w2 w3 hw
  have hrlen : r.len = instrLength (prevIsSdbd lookback) w1 := len_recordOfWords hr htake.symm
  refine ⟨commitRecord r u, r, (exec_decode_miss hs hc).trans (decodeMiss_words hfetch hr), hr, fun b => ?cache, ?draws, ?frame⟩
  case cache =>
    rw [cached_commitRecord, haddr]
    simp only [eq_comm (a := a)]
    rw [hmixed]
    rfl
  case draws =>
    have hdraws : u.draws = s.draws + (1 + 1 + (instrLength (prevIsSdbd lookback) w1 - 1)) := by rw [hmixed]
    change u.draws = s.draws + r.len + 1
    simp only [List.mem_cons, List.not_mem_nil, or_false] at hlen
    rw [hdraws, hrlen]
    omega
  case frame =>
    rw [commitRecord, hmixed]

/-! ### A hit -/

theorem exec_decode_hit {r : DecodedRecord} (hs : s.fault = none) (hc : cached s a = some r) :
    exec (.decode a) s =
      if freshRecord a r s then .next { s with response := .record r } else .refused (.staleDecode a) := by
  refine (running_of_ok hs _).trans ?_
  rw [hc]

theorem sameWord_iff {now old : Option Word} : sameWord now old = true ↔ ∃ w, now = some w ∧ old = some w := by
  cases now <;> cases old <;> simp [sameWord]
  exact eq_comm

/-- The check of a hit, word by word (41_decode.md R172). -/
theorem freshRecord_iff {r : DecodedRecord} :
    freshRecord a r s = true ↔
      (∀ i < r.len, ∃ w, peek s (a + BitVec.ofNat 16 i) = some w ∧ r.words[i]? = some w) ∧
        ∃ w, peek s (a - 1#16) = some w ∧ (w == 0x0001#16) = r.sdbd := by
  simp only [freshRecord, Bool.and_eq_true, List.all_eq_true, List.mem_range, sameWord_iff, beq_iff_eq,
    Option.map_eq_some_iff, prevIsSdbd]

/-- Settles O20: a hit is the check. -/
theorem decodeHitIsCheckedAgainstBus : Obligations.DecodeHitIsCheckedAgainstBus := by
  intro s a r hs hc
  rw [exec_decode_hit hs hc, ← freshRecord_iff]
  exact ⟨fun h => if_pos h, fun h => if_neg h⟩

/-! ### A decode during a stall, and right after reset -/

theorem peek_stalled (hs : 0 < s.jlpSleep) (b : Word) : peek s b = none := by
  rw [peek, if_pos hs]

/-- Settles O22: the stalled read gives the sentinel, which is a weeds word, and Peek answers nothing. -/
theorem decodeDuringStall : Obligations.DecodeDuringStall := by
  intro s a hs hsleep
  refine ⟨fun hc => ?miss, fun r hc => ?hit⟩
  case miss => exact (exec_decode_miss hs hc).trans (decodeMiss_weeds (busRead_stalled hsleep) (by decide))
  case hit =>
    rw [exec_decode_hit hs hc, if_neg]
    rw [freshRecord_iff, peek_stalled hsleep]
    rintro ⟨-, w, hw, -⟩
    cases hw

/-- With no stall, the accelerator off and no permission, a plain read gives the sentinel. -/
theorem busRead_reset (a : Word) : busRead a false State.reset = .ok sentinel (mixRng a State.reset) := by
  have hperm : permR (activePerm State.reset a) = false := by
    rw [activePerm, show State.reset.memPermAct = Vector.replicate (2 ^ 8) 0#4 from rfl, vecGet_replicate]
    rfl
  by_cases ha : fixedUnmapped a = true
  · exact busRead_fixed rfl ha
  · rw [busRead_translated rfl (Bool.eq_false_iff.mpr ha) rfl, hperm]
    rfl

/-- Settles O23: every paragraph is unreadable after reset, and the sentinel is a weeds word. -/
theorem resetStateReadsSentinel : Obligations.ResetStateReadsSentinel := by
  intro a
  have hdecode := (exec_decode_miss (s := State.reset) rfl rfl).trans (decodeMiss_weeds (busRead_reset a) (by decide))
  exact ⟨⟨_, exec_busRead_of_ok rfl (busRead_reset a), rfl, rfl⟩, ⟨_, hdecode.trans (if_neg Bool.false_ne_true), rfl⟩⟩

end Sys2Proof.Machine
end

section
/-! The bus write (43_locutus_bus.md R303, R304). A write that is not stalled and whose shadow raises no fault runs one
branch on the state after the shadow; the address and the state select the branch. -/

namespace Sys2Proof.Machine

variable {s t u : State} {a v : Word}

/-! ### After the shadow -/

@[simp] theorem afterShadow_icache (a : Word) (s : State) : (afterShadow a s).icache = s.icache := by
  rw [afterShadow_frame]
@[simp] theorem afterShadow_fault (a : Word) (s : State) : (afterShadow a s).fault = s.fault := by
  rw [afterShadow_frame]
@[simp] theorem afterShadow_ram (a : Word) (s : State) : (afterShadow a s).ram = s.ram := by
  rw [afterShadow_frame]
@[simp] theorem afterShadow_initialized (a : Word) (s : State) : (afterShadow a s).initialized = s.initialized := by
  rw [afterShadow_frame]
@[simp] theorem afterShadow_memMapAct (a : Word) (s : State) : (afterShadow a s).memMapAct = s.memMapAct := by
  rw [afterShadow_frame]
@[simp] theorem afterShadow_memMapRst (a : Word) (s : State) : (afterShadow a s).memMapRst = s.memMapRst := by
  rw [afterShadow_frame]
@[simp] theorem afterShadow_memPermAct (a : Word) (s : State) : (afterShadow a s).memPermAct = s.memPermAct := by
  rw [afterShadow_frame]
@[simp] theorem afterShadow_memPermRst (a : Word) (s : State) : (afterShadow a s).memPermRst = s.memPermRst := by
  rw [afterShadow_frame]
@[simp] theorem afterShadow_pflMap (a : Word) (s : State) : (afterShadow a s).pflMap = s.pflMap := by
  rw [afterShadow_frame]
@[simp] theorem afterShadow_pflPerm (a : Word) (s : State) : (afterShadow a s).pflPerm = s.pflPerm := by
  rw [afterShadow_frame]
@[simp] theorem afterShadow_bsel (a : Word) (s : State) : (afterShadow a s).bsel = s.bsel := by
  rw [afterShadow_frame]
@[simp] theorem afterShadow_featureFlags (a : Word) (s : State) : (afterShadow a s).featureFlags = s.featureFlags := by
  rw [afterShadow_frame]
@[simp] theorem afterShadow_jlpAccelOn (a : Word) (s : State) : (afterShadow a s).jlpAccelOn = s.jlpAccelOn := by
  rw [afterShadow_frame]
@[simp] theorem afterShadow_jlpCrc (a : Word) (s : State) : (afterShadow a s).jlpCrc = s.jlpCrc := by
  rw [afterShadow_frame]
@[simp] theorem afterShadow_jlpSleep (a : Word) (s : State) : (afterShadow a s).jlpSleep = s.jlpSleep := by
  rw [afterShadow_frame]
@[simp] theorem afterShadow_sgAddr (a : Word) (s : State) : (afterShadow a s).sgAddr = s.sgAddr := by
  rw [afterShadow_frame]
@[simp] theorem afterShadow_sgRow (a : Word) (s : State) : (afterShadow a s).sgRow = s.sgRow := by
  rw [afterShadow_frame]
@[simp] theorem afterShadow_flash (a : Word) (s : State) : (afterShadow a s).flash = s.flash := by
  rw [afterShadow_frame]
@[simp] theorem afterShadow_ext (a : Word) (s : State) : (afterShadow a s).ext = s.ext := by
  rw [afterShadow_frame]
@[simp] theorem afterShadow_params (a : Word) (s : State) : (afterShadow a s).params = s.params := by
  rw [afterShadow_frame]

@[simp] theorem activePerm_afterShadow (a b : Word) (s : State) : activePerm (afterShadow a s) b = activePerm s b := by
  simp [activePerm]

@[simp] theorem phys_afterShadow (a b : Word) (s : State) : phys (afterShadow a s) b = phys s b := by
  simp [phys, activeMap]

@[simp] theorem ramWord_afterShadow (a : Word) (s : State) (k : Nat) : ramWord (afterShadow a s) k = ramWord s k := by
  simp [ramWord]

@[simp] theorem cached_afterShadow (a b : Word) (s : State) : cached (afterShadow a s) b = cached s b := by
  simp [cached]

/-- The shadow changes JLP register 13 alone (43_locutus_bus.md R303). -/
theorem vecGet_jlpReg_afterShadow {i : BitVec 4} (hi : i ≠ 13#4) (a : Word) (s : State) :
    vecGet (afterShadow a s).jlpReg i = vecGet s.jlpReg i := by
  unfold afterShadow
  split
  · rw [setJlpRegister, vecGet_set, if_neg (Ne.symm hi)]
    rfl
  · rfl

/-! ### The end of a write -/

/-- The state a completed write leaves. -/
def written (a : Word) (s : State) : State := { invalidateWritten a s with response := .done }

theorem cached_written (a b : Word) (s : State) :
    cached (written a s) b = if b = a ∨ b = a - 1#16 ∨ b = a - 2#16 then none else cached s b :=
  cached_invalidateWritten a b s

theorem coverReset_written (h : u.icache = s.icache) : coverReset a s (written a u) := fun b => by
  rw [cached_written, cached, cached, h]

theorem writeTransaction_of_ok (hs : s.fault = none) (h : busWrite a v s = .ok () t) :
    writeTransaction a v s = .next { t with response := .done } := by
  rw [writeTransaction, running_of_ok hs, h, finish_ok]

/-- A write that is not stalled and whose shadow raises no fault ends as its branch does. -/
theorem writeTransaction_of_branch (hs : s.quiet) (hsh : shadowOk s a)
    (h : writeBranch a v (afterShadow a s) = .ok () u) : writeTransaction a v s = .next (written a u) :=
  writeTransaction_of_ok hs.1 (by rw [busWrite_quiet hs.2 hsh, h, andThen_ok])

theorem writeTransaction_of_refuse {r : Refusal} (hs : s.quiet) (hsh : shadowOk s a)
    (h : writeBranch a v (afterShadow a s) = .refuse r) : writeTransaction a v s = .refused r := by
  rw [writeTransaction, running_of_ok hs.1, busWrite_quiet hs.2 hsh, h, andThen_refuse]
  rfl

/-! ### The branches -/

theorem bankswitchMatches_iff : bankswitchMatches a = true ↔ a.toNat / 32 = 2 := by
  have ha := a.isLt
  rw [bankswitchMatches, beq_iff_eq, extractLsb'_eq_ofNat_iff]
  omega

theorem bankswitchMatches_eq_false (h : a.toNat / 32 ≠ 2) : bankswitchMatches a = false :=
  Bool.eq_false_iff.mpr (mt bankswitchMatches_iff.mp h)

theorem jlpWriteWindow_eq_false (h : ¬(0x8000 ≤ a.toNat ∧ a.toNat ≤ 0x803F ∨ 0x9F80 ≤ a.toNat ∧ a.toNat ≤ 0x9FFE)) :
    jlpWriteWindow a = false :=
  Bool.eq_false_iff.mpr (mt jlpWriteWindow_iff.mp h)

theorem unlockMatches_eq_false (h : a.toNat ≠ 0x8033) (v : Word) (s : State) : unlockMatches a v s = false := by
  have ha : (a == 0x8033#16) = false := beq_eq_false_iff_ne.mpr (mt (word_eq_iff a 0x8033).mp h)
  rw [unlockMatches, ha]
  rfl

theorem pageFlipMatches_eq_false (h : a.toNat % 0x1000 ≠ 0xFFF) (v : Word) (s : State) :
    pageFlipMatches a v s = false := by
  have ha : (a.extractLsb' 0 12 == 0xFFF#12) = false := by
    rw [beq_eq_false_iff_ne, ne_eq, extractLsb'_eq_ofNat_iff]
    omega
  rw [pageFlipMatches, ha]
  rfl

theorem mapperMatches_iff :
    mapperMatches a s = true ↔
      s.featureFlags.getLsbD 32 = true ∧ (0x1000 ≤ a.toNat ∧ a.toNat ≤ 0x14FF) ∧ permW (activePerm s a) = false := by
  simp only [mapperMatches, ltoMapper, Bool.and_eq_true, decide_eq_true_eq, BitVec.le_def, BitVec.reduceToNat,
    Bool.not_eq_true', and_assoc]

theorem writeBranch_bankswitch (h : bankswitchMatches a = true) :
    writeBranch a v s = .ok () (bankswitch a v s) := by
  rw [writeBranch, if_pos h]

theorem writeBranch_jlp (hon : s.jlpAccelOn = true) (ha : jlpWriteWindow a = true) :
    writeBranch a v s = jlpWrite a v s := by
  have hw := jlpWriteWindow_iff.mp ha
  rw [writeBranch, if_neg (by rw [bankswitchMatches_iff]; omega), if_pos (by rw [hon, ha]; rfl)]

theorem writeBranch_unlock (hon : s.jlpAccelOn = false) (h : unlockMatches 0x8033#16 v s = true) :
    writeBranch 0x8033#16 v s = .ok () (jlpTurnOn s) := by
  rw [writeBranch, if_neg (by decide), if_neg (by simp [hon]), if_pos h]

/-- The last three branches, outside the earlier ones. -/
theorem writeBranch_late (hb : bankswitchMatches a = false) (hj : (s.jlpAccelOn && jlpWriteWindow a) = false)
    (hu : unlockMatches a v s = false) :
    writeBranch a v s =
      if pageFlipMatches a v s then .ok () (pageFlip a v s)
      else if mapperMatches a s then .ok () (mapper a v s)
      else ramStore a v s := by
  rw [writeBranch, if_neg (by simp [hb]), if_neg (by simp [hj]), if_neg (by simp [hu])]

/-- In the mapper's range only the mapper and the store are left. -/
theorem writeBranch_mapperRange (h : 0x1000 ≤ a.toNat ∧ a.toNat ≤ 0x14FF) :
    writeBranch a v s = if mapperMatches a s then .ok () (mapper a v s) else ramStore a v s := by
  rw [writeBranch_late (bankswitchMatches_eq_false (by omega))
    (by rw [jlpWriteWindow_eq_false (by omega), Bool.and_false]) (unlockMatches_eq_false (by omega) v s),
    pageFlipMatches_eq_false (by omega)]
  rfl

/-! ### Stalled and faulting writes -/

/-- Settles O30: the stalled exit of a write. -/
theorem stalledWriteIsDropped : Obligations.StalledWriteIsDropped := by
  intro s a v hs hsleep
  have hwrite : busWrite a v s = .ok () (invalidateWritten a (stall (mixRng a s))) := by
    rw [busWrite_exits, if_pos hsleep]
  exact ⟨written a (stall (mixRng a s)), writeTransaction_of_ok hs hwrite, coverReset_written rfl, rfl⟩

/-- The shadow of an address past the store raises the fault. -/
theorem pvShadow_raises (ha : a ≠ 0x9F8D#16) (hp : permR (activePerm s a) = true ∨ permW (activePerm s a) = true)
    (hpa : ramWords ≤ phys s a) : pvShadow a s = .raise (.ramRange (phys s a)) s := by
  have hc : ((permR (activePerm s a) || permW (activePerm s a)) && a != 0x9F8D#16) = true := by
    rw [Bool.and_eq_true, Bool.or_eq_true, bne_iff_ne]
    exact ⟨hp, ha⟩
  rw [pvShadow, if_pos hc, ramRead, if_neg (by omega), andThen_raise]

/-- No shadow is taken at `$9F8D` and in a closed paragraph. -/
theorem afterShadow_of_no_shadow
    (h : a = 0x9F8D#16 ∨ permR (activePerm s a) = false ∧ permW (activePerm s a) = false) :
    shadowOk s a ∧ afterShadow a s = mixRng a s := by
  obtain rfl | ⟨hr, hw⟩ := h
  · exact ⟨fun _ hne => absurd rfl hne, by rw [afterShadow, if_neg (by simp)]⟩
  · refine ⟨fun hp => ?_, by rw [afterShadow, if_neg (by simp [hr, hw])]⟩
    rw [hr, hw] at hp
    simp at hp

/-- Settles O31: the shadow is the first part of the write, and raises or is not taken. -/
theorem pvShadowFaultsFirst : Obligations.PvShadowFaultsFirst := by
  intro s a v hs
  refine ⟨fun ha hp hpa => ?faults, fun h => ?none⟩
  case faults =>
    have hshadow : pvShadow a (mixRng a s) = .raise (.ramRange (phys s a)) (mixRng a s) := pvShadow_raises ha hp hpa
    have hwrite : busWrite a v s = .raise (.ramRange (phys s a)) (mixRng a s) := by
      rw [busWrite_exits, if_neg (by rw [hs.2]; omega), hshadow, andThen_raise]
    refine (running_of_ok hs.1 _).trans ?_
    rw [hwrite]
    rfl
  case none =>
    obtain ⟨hsh, hafter⟩ := afterShadow_of_no_shadow h
    refine (running_of_ok hs.1 _).trans ?_
    rw [busWrite_quiet hs.2 hsh, hafter]

/-- A write that answers a next state with the latch open completed. -/
theorem busWrite_ok_of_next (h : writeTransaction a v s = .next t) (ht : t.fault = none) :
    ∃ x u, busWrite a v s = .ok x u ∧ t = { u with response := .done } := by
  obtain ⟨-, hfin⟩ := running_eq_next.mp h
  obtain hok | ⟨r, u, -, rfl⟩ := finish_eq_next.mp hfin
  · exact hok
  · cases ht

/-- Settles O32: every completed write ends in the invalidation of its cover. -/
theorem writeResetsThreeCacheEntries : Obligations.WriteResetsThreeCacheEntries := by
  intro s t a v h ht
  rw [exec_of_encodeRequest (encodeRequest_decodeWrite a v)] at h
  obtain ⟨x, u, hw, rfl⟩ := busWrite_ok_of_next h ht
  have hcover (b : Word) (hb : b = a ∨ b = a - 1#16 ∨ b = a - 2#16) : cached u b = none := busWrite_invalidates hw hb
  exact ⟨hcover a (.inl rfl), hcover _ (.inr (.inl rfl)), hcover _ (.inr (.inr rfl))⟩

/-! ### The store -/

theorem ramStore_writable (hw : permW (activePerm s a) = true) (hpa : phys s a < ramWords) :
    ramStore a v s =
      .ok () { s with
        ram := tableSet ramDefault s.ram (phys s a) (storedWord s a v)
        initialized := tableSet false s.initialized (phys s a) true } := by
  rw [ramStore, if_pos hw, ramWrite, if_pos hpa]

theorem ramStore_closed (hw : permW (activePerm s a) = false) : ramStore a v s = .ok () s := by
  rw [ramStore, if_neg (by simp [hw])]

/-- The last branch. -/
theorem writeBranch_ramStore (hb : bankswitchMatches a = false) (hj : (s.jlpAccelOn && jlpWriteWindow a) = false)
    (hu : unlockMatches a v s = false) (hp : pageFlipMatches a v s = false) (hm : mapperMatches a s = false) :
    writeBranch a v s = ramStore a v s := by
  rw [writeBranch_late hb hj hu, if_neg (by simp [hp]), if_neg (by simp [hm])]

/-- Settles O34: the last branch sets one word of the store, or none. -/
theorem ramStoreWritesOneWord : Obligations.RamStoreWritesOneWord := by
  intro s a v hs hsh ha hj hu hp hm q pa hpa
  have hbranch : writeBranch a v (afterShadow a s) = ramStore a v (afterShadow a s) :=
    writeBranch_ramStore (bankswitchMatches_eq_false (by omega)) (by simpa using hj)
      (by simpa [unlockMatches] using hu) (by simpa [pageFlipMatches] using hp)
      (by simpa [mapperMatches, ltoMapper] using hm)
  have hnarrow : s.params.narrowStore = .specDefault → narrowStore s.params v = v &&& 0x00FF#16 := fun h => by
    rw [narrowStore, h]
  by_cases hw : q.getLsbD 1 = true
  case pos =>
    have hstore := ramStore_writable (s := afterShadow a s) (v := v) ((congrArg permW (activePerm_afterShadow a a s)).trans hw)
      (by rw [phys_afterShadow]; exact hpa hw)
    refine ⟨_, writeTransaction_of_branch hs hsh (hbranch.trans hstore), fun k => ?word, fun k => ?mark,
      coverReset_written (by simp), hnarrow, rfl⟩
    case word =>
      refine (tableGet_set _ _ _ _ _).trans ?_
      simp only [phys_afterShadow, storedWord, activePerm_afterShadow, afterShadow_params, afterShadow_ram]
      by_cases hk : k = phys s a
      · exact (if_pos hk.symm).trans (if_pos ⟨hw, hk⟩).symm
      · exact (if_neg (Ne.symm hk)).trans (if_neg fun h => hk h.2).symm
    case mark =>
      refine (tableGet_set false _ _ _ true).trans ?_
      simp only [phys_afterShadow, afterShadow_initialized]
      by_cases hk : k = phys s a
      · exact (if_pos hk.symm).trans (if_pos ⟨hw, hk⟩).symm
      · exact (if_neg (Ne.symm hk)).trans (if_neg fun h => hk h.2).symm
  case neg =>
    have hstore := ramStore_closed (s := afterShadow a s) (v := v)
      ((congrArg permW (activePerm_afterShadow a a s)).trans (Bool.eq_false_iff.mpr hw))
    refine ⟨_, writeTransaction_of_branch hs hsh (hbranch.trans hstore), fun k => ?word, fun k => ?mark,
      coverReset_written (by simp), hnarrow, rfl⟩
    case word =>
      rw [if_neg fun h => hw h.1]
      exact ramWord_afterShadow a s k
    case mark =>
      rw [if_neg fun h => hw h.1]
      exact congrArg (tableGet false · k) (afterShadow_initialized a s)

end Sys2Proof.Machine
end

section
/-! The table writes (43_locutus_bus.md R306 to R314, 44_jlp_window.md R351, R352): bankswitch, page flip, mapper, unlock
and lock. Each fills or sets entries of a table and invalidates the range of its addresses. -/

namespace Sys2Proof.Machine

variable {s t u : State} {a v : Word}

/-! ### Invalidated ranges -/

/-- A range of d + 1 addresses, counted from lo - 2 on (41_decode.md R174). -/
theorem rangeCover_add_iff {lo d b : Word} (hd : d.toNat < 0xFFFE) :
    rangeCover lo (lo + d) b.toNat = true ↔ b - (lo - 2#16) ≤ d + 2#16 := by
  have hspan : lo + d - lo = d := by ring
  have hshift : lo + d - (lo - 2#16) = d + 2#16 := by ring
  have hshort : ¬0xFFFE#16 ≤ d := by
    simp only [BitVec.le_def, BitVec.reduceToNat]
    omega
  simp [rangeCover, hspan, hshift, hshort]

theorem cached_written_invalidateRange {lo d : Word} (hd : d.toNat < 0xFFFE) (a b : Word) (s : State) :
    cached (written a (invalidateRange lo (lo + d) s)) b =
      if b = a ∨ b = a - 1#16 ∨ b = a - 2#16 then none
      else if b - (lo - 2#16) ≤ d + 2#16 then none else cached s b := by
  simp only [cached_written, cached_invalidateRange, rangeCover_add_iff hd]

/-! ### Bankswitch -/

theorem toNat_halfChapterBase (c : BitVec 4) (h : BitVec 1) :
    (halfChapterBase c h).toNat = c.toNat * 16 + h.toNat * 8 := by
  simp only [halfChapterBase, toNat_append_eq, BitVec.reduceToNat]
  omega

theorem bankswitch_bankswitchAddr (c : BitVec 4) (h : BitVec 1) (v : Word) (s : State) :
    bankswitch (bankswitchAddr c h) v s =
      if permB (vecGet s.memPermAct (halfChapterBase c h)) then
        invalidateRange (c ++ h ++ 0#11) (c ++ h ++ 0#11 + 0x7FF#16)
          { s with
            memMapAct := vecFill s.memMapAct (halfChapterBase c h) 8 fun i => (v + BitVec.ofNat 16 i) &&& 0x00FF#16 }
      else s := by
  have ha := toNat_bankswitchAddr c h
  have hc : (bankswitchAddr c h).extractLsb' 0 4 = c := extractLsb'_eq_of_toNat (by omega)
  have hh : (bankswitchAddr c h).extractLsb' 4 1 = h := extractLsb'_eq_of_toNat (by omega)
  simp only [bankswitch, hc, hh]

theorem bankswitchMatches_bankswitchAddr (c : BitVec 4) (h : BitVec 1) :
    bankswitchMatches (bankswitchAddr c h) = true := by
  rw [bankswitchMatches_iff, toNat_bankswitchAddr]
  omega

/-- Settles O33: the first branch, with the half-chapter's numbers. -/
theorem bankswitchRemapsHalfChapter : Obligations.BankswitchRemapsHalfChapter := by
  intro s c h v hs hsh a base lo flip
  have hbase : BitVec.ofNat 8 base = halfChapterBase c h := by
    apply BitVec.eq_of_toNat_eq
    rw [toNat_halfChapterBase, BitVec.toNat_ofNat]
    omega
  have hlo : lo = c ++ h ++ 0#11 := by
    apply BitVec.eq_of_toNat_eq
    simp only [lo, base, toNat_append_eq, BitVec.toNat_ofNat]
    omega
  have hflip : flip = permB (vecGet (afterShadow a s).memPermAct (halfChapterBase c h)) := by
    rw [← hbase, afterShadow_memPermAct]
    rfl
  have hbranch : writeBranch a v (afterShadow a s) = .ok () (bankswitch a v (afterShadow a s)) :=
    writeBranch_bankswitch (bankswitchMatches_bankswitchAddr c h)
  refine ⟨_, writeTransaction_of_branch hs hsh hbranch, ?_⟩
  rw [bankswitch_bankswitchAddr, ← hflip]
  by_cases hf : flip = true
  case pos =>
    simp only [hf, true_and, if_true]
    refine ⟨fun p => ?map, fun b => ?cache, rfl⟩
    case map =>
      refine (vecGet_fill _ _ _ _ p).trans ?_
      rw [toNat_halfChapterBase, afterShadow_memMapAct]
    case cache =>
      rw [cached_written_invalidateRange (by decide), hlo]
      simp only [BitVec.reduceAdd]
      exact congrArg (ite _ none) (congrArg (ite _ none) (cached_afterShadow a b s))
  case neg =>
    simp only [hf]
    refine ⟨fun p => ?map, coverReset_written (by simp), rfl⟩
    case map => exact congrArg (vecGet · p) (afterShadow_memMapAct a s)

/-! ### Page flip -/

theorem toNat_chapterParagraph (c first : BitVec 4) : (chapterParagraph c first).toNat = c.toNat * 16 + first.toNat :=
  toNat_append_eq c first

theorem vecGet_memMapAct_installPage (c g f : BitVec 4) (s : State) (p : BitVec 8) :
    vecGet (installPage c g f s).memMapAct p =
      if c.toNat * 16 + f.toNat ≤ p.toNat ∧ p.toNat < c.toNat * 16 + 16 then pageMap s c g (p.toNat - c.toNat * 16)
      else vecGet s.memMapAct p := by
  have hend : c.toNat * 16 + f.toNat + (16 - f.toNat) = c.toNat * 16 + 16 := by omega
  rw [installPage_memMapAct, vecGet_fill, toNat_chapterParagraph, hend]
  split
  · congr 1
    omega
  · rfl

theorem vecGet_memPermAct_installPage (c g f : BitVec 4) (s : State) (p : BitVec 8) :
    vecGet (installPage c g f s).memPermAct p =
      if c.toNat * 16 + f.toNat ≤ p.toNat ∧ p.toNat < c.toNat * 16 + 16 then pagePerm s c g
      else vecGet s.memPermAct p := by
  have hend : c.toNat * 16 + f.toNat + (16 - f.toNat) = c.toNat * 16 + 16 := by omega
  rw [installPage_memPermAct, vecGet_fill, toNat_chapterParagraph, hend]

theorem toNat_pageMap (s : State) (c g : BitVec 4) {i : Nat} (hi : i < 16) :
    (pageMap s c g i).toNat = (vecGet s.pflMap (c ++ g)).toNat + i := by
  have := (vecGet s.pflMap (pflIndex c g)).isLt
  rw [pageMap, BitVec.toNat_add, BitVec.toNat_setWidth_of_le (by decide), BitVec.toNat_ofNat]
  change _ = (vecGet s.pflMap (pflIndex c g)).toNat + i
  omega

theorem withoutB_bits (q : BitVec 4) :
    (∀ j < 3, (withoutB q).getLsbD j = q.getLsbD j) ∧ (withoutB q).getLsbD 3 = false := by
  simp only [withoutB, BitVec.getLsbD_and]
  refine ⟨fun j hj => ?_, by simp⟩
  obtain rfl | rfl | rfl : j = 0 ∨ j = 1 ∨ j = 2 := by omega
  all_goals simp

/-- The last word of a chapter from the first flipped paragraph on. -/
theorem pageFlip_range (c first : BitVec 4) :
    (c ++ 0xFFF#12 : Word) = (c ++ first ++ 0#8) + (BitVec.ofNat 16 (0xFFF - first.toNat * 256)) := by
  apply BitVec.eq_of_toNat_eq
  simp only [toNat_append_eq, BitVec.toNat_add, BitVec.toNat_ofNat]
  omega

theorem pageFlipMatches_chapterEnd {c : BitVec 4} (hv : v &&& s.params.pflSigMask = 0x0A50#16)
    (hc : ¬(c = 9#4 ∧ s.jlpAccelOn = true)) : pageFlipMatches (chapterEnd c) v s = true := by
  have hlow : (chapterEnd c).extractLsb' 0 12 = 0xFFF#12 := extractLsb'_append_low c _
  have hwin : (s.jlpAccelOn && jlpReadWindow (chapterEnd c)) = false := by
    rw [Bool.eq_false_iff, ne_eq, Bool.and_eq_true, jlpReadWindow_iff, toNat_chapterEnd]
    rintro ⟨hon, hwin⟩
    exact hc ⟨BitVec.eq_of_toNat_eq (by simp only [BitVec.reduceToNat]; omega), hon⟩
  rw [pageFlipMatches, hlow, hv, hwin]
  rfl

theorem writeBranch_chapterEnd {c : BitVec 4} (hv : v &&& s.params.pflSigMask = 0x0A50#16)
    (hc : ¬(c = 9#4 ∧ s.jlpAccelOn = true)) :
    writeBranch (chapterEnd c) v s = .ok () (pageFlip (chapterEnd c) v s) := by
  have ha := toNat_chapterEnd c
  rw [writeBranch_late (bankswitchMatches_eq_false (by omega))
    (by rw [jlpWriteWindow_eq_false (by omega), Bool.and_false]) (unlockMatches_eq_false (by omega) v s),
    if_pos (pageFlipMatches_chapterEnd hv hc)]

theorem pageFlip_chapterEnd (c : BitVec 4) (v : Word) (s : State) :
    pageFlip (chapterEnd c) v s =
      if permB (vecGet s.pflPerm (c ++ v.extractLsb' 0 4)) then
        invalidateRange (c ++ firstFlipped c ++ 0#8)
          (c ++ firstFlipped c ++ 0#8 + BitVec.ofNat 16 (0xFFF - (firstFlipped c).toNat * 256))
          { installPage c (v.extractLsb' 0 4) (firstFlipped c) s with bsel := vecSet s.bsel c (v.extractLsb' 0 4) }
      else s := by
  have hc : chapterOf (chapterEnd c) = c := extractLsb'_eq_of_toNat (by rw [toNat_chapterEnd]; omega)
  simp only [pageFlip, hc, ← pageFlip_range]
  rfl

/-- Settles O35: the page-flip branch installs the page with the permission less B. -/
theorem pageFlipInstallsPage : Obligations.PageFlipInstallsPage := by
  intro s c v hs hsh hv hc a g e first lo flip
  have hfirst : (firstFlipped c).toNat = first := by
    simp only [firstFlipped, first]
    split <;> rfl
  have hfirst_lt : first ≤ 8 := by
    simp only [first]
    split <;> omega
  have hlo : lo = c ++ firstFlipped c ++ 0#8 := by
    apply BitVec.eq_of_toNat_eq
    simp only [lo, toNat_append_eq, BitVec.toNat_ofNat, hfirst]
    omega
  have hend : a - (lo - 2#16) = BitVec.ofNat 16 (0xFFF - (firstFlipped c).toNat * 256) + 2#16 := by
    rw [hlo, show a = c ++ 0xFFF#12 from rfl, pageFlip_range c (firstFlipped c)]
    ring
  have hflip : flip = permB (vecGet (afterShadow a s).pflPerm (c ++ v.extractLsb' 0 4)) := by
    rw [afterShadow_pflPerm]
    rfl
  have hbranch : writeBranch a v (afterShadow a s) = .ok () (pageFlip a v (afterShadow a s)) :=
    writeBranch_chapterEnd (by simpa using hv) (by simpa using hc)
  refine ⟨_, writeTransaction_of_branch hs hsh hbranch, ?_⟩
  rw [pageFlip_chapterEnd, ← hflip]
  by_cases hf : flip = true
  case pos =>
    simp only [hf, true_and, if_true]
    refine ⟨fun p => ?map, fun i => ?bsel, fun b => ?cache, rfl⟩
    case map =>
      have hmap := vecGet_memMapAct_installPage c g (firstFlipped c) (afterShadow a s) p
      have hperm := vecGet_memPermAct_installPage c g (firstFlipped c) (afterShadow a s) p
      rw [hfirst] at hmap hperm
      split
      next hp =>
        rw [if_pos hp] at hmap hperm
        have hbits := withoutB_bits (vecGet s.pflPerm e)
        refine ⟨?_, ?_⟩
        · refine (congrArg BitVec.toNat hmap).trans ((toNat_pageMap _ c g (by omega)).trans ?_)
          rw [afterShadow_pflMap]
        · rw [pagePerm, afterShadow_pflPerm] at hperm
          exact ⟨fun j hj => (congrArg (BitVec.getLsbD · j) hperm).trans (hbits.1 j hj),
            (congrArg (BitVec.getLsbD · 3) hperm).trans hbits.2⟩
      next hp =>
        rw [if_neg hp, afterShadow_memMapAct] at hmap
        rw [if_neg hp, afterShadow_memPermAct] at hperm
        exact ⟨hmap, hperm⟩
    case bsel =>
      refine (vecGet_set _ _ _ _).trans ?_
      rw [afterShadow_bsel]
      simp only [eq_comm (a := c)]
      rfl
    case cache =>
      rw [cached_written_invalidateRange (by rw [BitVec.toNat_ofNat]; omega), hend, hlo]
      exact congrArg (ite _ none) (congrArg (ite _ none) (cached_afterShadow a b s))
  case neg =>
    simp only [hf]
    refine ⟨fun p => ?map, fun i => ?bsel, coverReset_written (by simp), rfl⟩
    case map => exact ⟨congrArg (vecGet · p) (afterShadow_memMapAct a s), congrArg (vecGet · p) (afterShadow_memPermAct a s)⟩
    case bsel => exact congrArg (vecGet · i) (afterShadow_bsel a s)

end Sys2Proof.Machine
end

section
/-! The mapper, the unlock and the lock (43_locutus_bus.md R306, R312 to R314, 44_jlp_window.md R351, R352). -/

namespace Sys2Proof.Machine

variable {s t u : State} {a v : Word}

/-! ### What a part of a transaction ends in -/

/-- Whatever state a part of a transaction leaves, completed or raised, has a property. -/
def Res.Ends {α : Type} (P : State → Prop) (x : Res α) : Prop :=
  (∀ y t, x = .ok y t → P t) ∧ ∀ r t, x = .raise r t → P t

variable {P : State → Prop} {α β : Type}

theorem ends_ok {y : α} (h : P t) : (Res.ok y t).Ends P :=
  ⟨fun _ _ e => by cases e; exact h, fun _ _ e => (nomatch e)⟩

theorem ends_raise {r : FaultRecord} (h : P t) : (Res.raise r t : Res α).Ends P :=
  ⟨fun _ _ e => (nomatch e), fun _ _ e => by cases e; exact h⟩

theorem ends_refuse {r : Refusal} : (Res.refuse r : Res α).Ends P :=
  ⟨fun _ _ e => (nomatch e), fun _ _ e => (nomatch e)⟩

theorem ends_imp {Q : State → Prop} {x : Res α} (hx : x.Ends Q) (hQ : ∀ t, Q t → P t) : x.Ends P :=
  ⟨fun y t e => hQ t (hx.1 y t e), fun r t e => hQ t (hx.2 r t e)⟩

theorem ends_andThen {x : Res α} {k : α → State → Res β} (hx : x.Ends P) (hk : ∀ y t, x = .ok y t → (k y t).Ends P) :
    (x.andThen k).Ends P := by
  cases x with
  | ok y t => exact hk y t rfl
  | raise r t => exact ends_raise (hx.2 r t rfl)
  | refuse r => exact ends_refuse

theorem ends_ite {c : Prop} [Decidable c] {x y : Res α} (hx : c → x.Ends P) (hy : ¬c → y.Ends P) :
    (if c then x else y).Ends P := by
  split
  · exact hx ‹_›
  · exact hy ‹_›

/-- A guarded transaction ends in what its parts end in, the latch and the answer apart. -/
theorem ends_finish {x : Res α} {answer : α → Response} (hx : x.Ends P)
    (hP : ∀ t f r, P t → P { t with fault := f, response := r }) (h : running s (finish answer x) = .next t) : P t := by
  obtain ⟨-, h⟩ := running_eq_next.mp h
  obtain ⟨y, u, hu, rfl⟩ | ⟨r, u, hu, rfl⟩ := finish_eq_next.mp h
  · exact hP u u.fault _ (hx.1 y u hu)
  · exact hP u _ _ (hx.2 r u hu)

/-- The shadow of a write leaves all but the JLP registers, the generator and the draws (43_locutus_bus.md R303). -/
def ShadowFrame (s t : State) : Prop := t = { s with jlpReg := t.jlpReg, jlpRng := t.jlpRng, draws := t.draws }

theorem ends_pvShadow_mixRng (a : Word) (s : State) : (pvShadow a (mixRng a s)).Ends (ShadowFrame s) := by
  refine ⟨fun y t ht => ?_, fun r t ht => ?_⟩
  · obtain rfl | ⟨-, rfl⟩ := pvShadow_eq_ok ht <;> exact rfl
  · obtain ⟨rfl, -⟩ := pvShadow_eq_raise ht
    exact rfl

/-- A bus write from its parts: the stalled exit, the shadow, the branch, the invalidation. -/
theorem ends_busWrite (hstall : P (invalidateWritten a (stall (mixRng a s)))) (hshadow : ∀ t, ShadowFrame s t → P t)
    (hbranch : ∀ t, ShadowFrame s t → (writeBranch a v t).Ends P) (hinv : ∀ t, P t → P (invalidateWritten a t)) :
    (busWrite a v s).Ends P := by
  rw [busWrite_exits]
  refine ends_ite (fun _ => ends_ok hstall) fun _ => ?_
  have hpv := ends_pvShadow_mixRng a s
  refine ends_andThen (ends_imp hpv hshadow) fun _ t ht => ?_
  have hends := hbranch t (hpv.1 _ t ht)
  exact ends_andThen hends fun _ u hu => ends_ok (hinv u (hends.1 _ u hu))

/-! ### The mapper -/

theorem mapper_mapSetAddr (copy : MapCopy) (p : BitVec 8) (v : Word) (s : State) :
    mapper (mapSetAddr copy p) v s = setMap copy p v s := by
  have ha := toNat_mapSetAddr copy p
  have hc : (mapSetAddr copy p).extractLsb' 8 1 = copy.bit := extractLsb'_eq_of_toNat (by omega)
  have hp : (mapSetAddr copy p).extractLsb' 0 8 = p := extractLsb'_eq_of_toNat (by omega)
  rw [mapper, if_pos (by simp only [BitVec.le_def, BitVec.reduceToNat]; omega), hc, hp, copyOf_bit]

theorem mapper_permSetAddr (copy : MapCopy) (p : BitVec 8) (v : Word) (s : State) :
    mapper (permSetAddr copy p) v s = setPerm copy p (v.extractLsb' 0 4) s := by
  have ha := toNat_permSetAddr copy p
  have hc : (permSetAddr copy p).extractLsb' 8 1 = copy.bit := extractLsb'_eq_of_toNat (by omega)
  have hp : (permSetAddr copy p).extractLsb' 0 8 = p := extractLsb'_eq_of_toNat (by omega)
  rw [mapper, if_neg (by simp only [BitVec.le_def, BitVec.reduceToNat]; omega),
    if_pos (by simp only [BitVec.le_def, BitVec.reduceToNat]; omega), hc, hp, copyOf_bit]

theorem mapper_pflSetAddr (c g : BitVec 4) (v : Word) (s : State) :
    mapper (pflSetAddr c g) v s = setPageEntry c g v s := by
  have ha := toNat_pflSetAddr c g
  have hc : (pflSetAddr c g).extractLsb' 4 4 = c := extractLsb'_eq_of_toNat (by omega)
  have hg : (pflSetAddr c g).extractLsb' 0 4 = g := extractLsb'_eq_of_toNat (by omega)
  rw [mapper, if_neg (by simp only [BitVec.le_def, BitVec.reduceToNat]; omega),
    if_neg (by simp only [BitVec.le_def, BitVec.reduceToNat]; omega), hc, hg]

/-- The open mapper takes a write in its range. -/
theorem writeTransaction_mapper (hs : s.quiet) (hon : s.featureFlags.getLsbD 32 = true) (hsh : shadowOk s a)
    (hw : permW (activePerm s a) = false) (ha : 0x1000 ≤ a.toNat ∧ a.toNat ≤ 0x14FF) :
    writeTransaction a v s = .next (written a (mapper a v (afterShadow a s))) := by
  refine writeTransaction_of_branch hs hsh ?_
  rw [writeBranch_mapperRange ha, if_pos (mapperMatches_iff.mpr ⟨by simpa using hon, ha, by simpa using hw⟩)]

theorem paragraph_range (p : BitVec 8) : (p ++ 0xFF#8 : Word) = p ++ 0#8 + 0xFF#16 := by
  apply BitVec.eq_of_toNat_eq
  simp only [toNat_append_eq, BitVec.toNat_add, BitVec.reduceToNat]
  omega

/-- An entry of the active copy resets the records of its paragraph (43_locutus_bus.md R314). -/
theorem cached_written_invalidateParagraph (p : BitVec 8) (a b : Word) (s : State) :
    cached (written a (invalidateParagraph p s)) b =
      if b = a ∨ b = a - 1#16 ∨ b = a - 2#16 then none
      else if b - (p ++ 0#8 - 2#16) ≤ 0x101#16 then none else cached s b := by
  rw [invalidateParagraph, paragraph_range, cached_written_invalidateRange (by decide)]
  rfl

/-- A full table with one entry set, written with the index on the left. -/
theorem vecGet_set_ite {n : Nat} (x : Vector α (2 ^ n)) (p i : BitVec n) (y : α) :
    vecGet (vecSet x p y) i = if i = p then y else vecGet x i := by
  rw [vecGet_set]
  simp only [eq_comm]

/-- Settles O36: each range of the mapper is one of its three entry writes. -/
theorem mapperSetsOneEntry : Obligations.MapperSetsOneEntry := by
  intro s copy p c g v hs hon
  refine ⟨fun hsh hw => ?map, fun hsh hw => ?perm, fun hsh hw => ?page⟩
  case map =>
    have ha := toNat_mapSetAddr copy p
    have hwrite := writeTransaction_mapper (v := v) hs hon hsh hw (by omega)
    rw [mapper_mapSetAddr] at hwrite
    refine ⟨_, hwrite, ?_⟩
    cases copy with
    | active =>
      refine ⟨fun i => ?_, fun i => ?_, fun b => ?_, rfl⟩
      · refine (vecGet_set_ite _ _ _ _).trans ?_
        simp
      · simp [written, setMap, invalidateParagraph]
      · refine (cached_written_invalidateParagraph _ _ _ _).trans ?_
        simp [cached]
    | resetDefault =>
      refine ⟨fun i => ?_, fun i => ?_, fun b => ?_, rfl⟩
      · simp [written, setMap]
      · refine (vecGet_set_ite _ _ _ _).trans ?_
        simp
      · refine (cached_written _ _ _).trans ?_
        simp [cached, setMap]
  case perm =>
    have ha := toNat_permSetAddr copy p
    have hwrite := writeTransaction_mapper (v := v) hs hon hsh hw (by omega)
    rw [mapper_permSetAddr] at hwrite
    refine ⟨_, hwrite, ?_⟩
    cases copy with
    | active =>
      refine ⟨fun i => ?_, fun i => ?_, fun b => ?_, rfl⟩
      · refine (vecGet_set_ite _ _ _ _).trans ?_
        simp
      · simp [written, setPerm, invalidateParagraph]
      · refine (cached_written_invalidateParagraph _ _ _ _).trans ?_
        simp [cached]
    | resetDefault =>
      refine ⟨fun i => ?_, fun i => ?_, fun b => ?_, rfl⟩
      · simp [written, setPerm]
      · refine (vecGet_set_ite _ _ _ _).trans ?_
        simp
      · refine (cached_written _ _ _).trans ?_
        simp [cached, setPerm]
  case page =>
    have ha := toNat_pflSetAddr c g
    have hwrite := writeTransaction_mapper (v := v) hs hon hsh hw (by omega)
    rw [mapper_pflSetAddr] at hwrite
    refine ⟨_, hwrite, fun hpack => ⟨fun i => ?_, fun i => ?_⟩, fun i hi => ⟨?_, ?_⟩,
      coverReset_written (by simp [setPageEntry]), rfl⟩
    · refine (vecGet_set_ite _ _ _ _).trans ?_
      simp [packedMap, hpack, pflIndex]
    · refine (vecGet_set_ite _ _ _ _).trans ?_
      simp [packedPerm, hpack, pflIndex]
    · refine (vecGet_set_ite _ _ _ _).trans ?_
      simp [pflIndex, hi]
    · refine (vecGet_set_ite _ _ _ _).trans ?_
      simp [pflIndex, hi]

/-- The tables of translation and paging are the same. -/
def SameTables (s t : State) : Prop :=
  t.memMapAct = s.memMapAct ∧ t.memMapRst = s.memMapRst ∧ t.memPermAct = s.memPermAct ∧
    t.memPermRst = s.memPermRst ∧ t.pflMap = s.pflMap ∧ t.pflPerm = s.pflPerm ∧ t.bsel = s.bsel

theorem ends_ramStore (hs : P s) (hset : ∀ m n, P { s with ram := m, initialized := n }) :
    (ramStore a v s).Ends P := by
  unfold ramStore ramWrite
  exact ends_ite (fun _ => ends_ite (fun _ => ends_ok (hset _ _)) fun _ => ends_raise hs) fun _ => ends_ok hs

/-- Settles O37: in its range a closed mapper leaves the store as the only branch. -/
theorem closedMapperChangesNoTable : Obligations.ClosedMapperChangesNoTable := by
  intro s t a v hlo hhi hclosed h
  have hsame (u : State) (hu : ShadowFrame s u) : SameTables s u := by
    rw [hu]
    exact ⟨rfl, rfl, rfl, rfl, rfl, rfl, rfl⟩
  have hbranch (u : State) (hu : ShadowFrame s u) : (writeBranch a v u).Ends (SameTables s) := by
    have hm : ¬mapperMatches a u = true := by
      rw [mapperMatches_iff, hu]
      rintro ⟨hon, -, hw⟩
      obtain hoff | hopen := hclosed
      · exact Bool.noConfusion (hoff.symm.trans hon)
      · exact absurd hopen (by rw [show permW (activePerm s a) = false from hw]; decide)
    rw [writeBranch_mapperRange ⟨hlo, hhi⟩, if_neg hm]
    exact ends_ramStore (hsame u hu) fun _ _ => hsame u hu
  exact ends_finish (ends_busWrite ⟨rfl, rfl, rfl, rfl, rfl, rfl, rfl⟩ hsame hbranch fun _ hu => hu)
    (fun _ _ _ hu => hu) h

/-! ### Unlock and lock -/

/-- The range of the accelerator's paragraphs, two words before it and the end included. -/
theorem sub_windowStart_le_iff (b : Word) :
    b - (0x8000#16 - 2#16) ≤ 0x1FFF#16 + 2#16 ↔ 0x7FFE ≤ b.toNat ∧ b.toNat ≤ 0x9FFF := by
  rw [BitVec.le_def]
  simp only [BitVec.toNat_sub, BitVec.reduceSub, BitVec.reduceAdd, BitVec.reduceToNat]
  omega

theorem cached_written_window {a : Word} (ha : 0x8000 ≤ a.toNat ∧ a.toNat ≤ 0x9FFF) (b : Word) (s : State) :
    cached (written a (invalidateRange 0x8000#16 0x9FFF#16 s)) b =
      if 0x7FFE ≤ b.toNat ∧ b.toNat ≤ 0x9FFF then none else cached s b := by
  have hend : (0x9FFF#16 : Word) = 0x8000#16 + 0x1FFF#16 := by decide
  have hcover (hb : b = a ∨ b = a - 1#16 ∨ b = a - 2#16) : 0x7FFE ≤ b.toNat ∧ b.toNat ≤ 0x9FFF := by
    obtain rfl | rfl | rfl := hb
    · omega
    · simp only [BitVec.toNat_sub, BitVec.reduceToNat]; omega
    · simp only [BitVec.toNat_sub, BitVec.reduceToNat]; omega
  rw [hend, cached_written_invalidateRange (by decide)]
  simp only [sub_windowStart_le_iff]
  by_cases hb : b = a ∨ b = a - 1#16 ∨ b = a - 2#16
  · rw [if_pos hb, if_pos (hcover hb)]
  · rw [if_neg hb]

theorem jlpTurnOn_off (h : s.jlpAccelOn = false) :
    jlpTurnOn s = invalidateRange 0x8000#16 0x9FFF#16
      { s with
        jlpAccelOn := true
        memMapAct := vecFill s.memMapAct 0x80#8 32 fun i => BitVec.ofNat 16 (0x80 + i)
        memPermAct := vecFill s.memPermAct 0x80#8 32 fun _ => permReadWrite } := by
  rw [jlpTurnOn, if_neg (by simp [h])]

/-- The identity mapping of the accelerator's paragraphs (44_jlp_window.md R351). -/
theorem vecGet_jlpTurnOn (h : s.jlpAccelOn = false) (p : BitVec 8) :
    (vecGet (jlpTurnOn s).memMapAct p, vecGet (jlpTurnOn s).memPermAct p) =
      if 0x80 ≤ p.toNat ∧ p.toNat ≤ 0x9F then (p.setWidth 16, 0b0011#4)
      else (vecGet s.memMapAct p, vecGet s.memPermAct p) := by
  have hcond : (0x80#8).toNat ≤ p.toNat ∧ p.toNat < (0x80#8).toNat + 32 ↔ 0x80 ≤ p.toNat ∧ p.toNat ≤ 0x9F := by
    simp only [BitVec.reduceToNat]
    omega
  rw [jlpTurnOn_off h]
  simp only [invalidateRange_memMapAct, invalidateRange_memPermAct, vecGet_fill, hcond]
  split
  next hp =>
    refine Prod.ext (BitVec.eq_of_toNat_eq ?_) rfl
    simp only [BitVec.toNat_ofNat, BitVec.toNat_setWidth]
    omega
  next hp => rfl

/-- Settles O38: the unlock branch turns the accelerator on. -/
theorem unlockTurnsAcceleratorOn : Obligations.UnlockTurnsAcceleratorOn := by
  intro s hs hoff hmode hsh
  have hoff' : (afterShadow 0x8033#16 s).jlpAccelOn = false := by simpa using hoff
  have hbranch : writeBranch 0x8033#16 0x4A5A#16 (afterShadow 0x8033#16 s) =
      .ok () (jlpTurnOn (afterShadow 0x8033#16 s)) :=
    writeBranch_unlock hoff' (by simp [unlockMatches, hoff, hmode])
  refine ⟨_, writeTransaction_of_branch hs hsh hbranch, ?on, fun p => ?map, fun b => ?cache, ?frame⟩
  case on => rw [jlpTurnOn_off hoff']; rfl
  case map =>
    refine (vecGet_jlpTurnOn hoff' p).trans ?_
    rw [afterShadow_memMapAct, afterShadow_memPermAct]
  case cache =>
    rw [jlpTurnOn_off hoff', cached_written_window (by decide)]
    exact congrArg (ite _ none) (cached_afterShadow _ b s)
  case frame => rw [jlpTurnOn_off hoff']; rfl

theorem writeBranch_lock (hon : s.jlpAccelOn = true) : writeBranch 0x8034#16 v s = jlpLock v s :=
  (writeBranch_jlp hon (by decide)).trans rfl

/-- The pages put back by the lock (44_jlp_window.md R352). -/
theorem vecGet_jlpTurnOff {c i : BitVec 4} (hc : c = 8#4 ∨ c = 9#4) (s : State) :
    vecGet (jlpTurnOff s).memMapAct (c ++ i) =
      (vecGet s.pflMap (c ++ vecGet s.bsel c)).setWidth 16 + i.setWidth 16 ∧
    vecGet (jlpTurnOff s).memPermAct (c ++ i) = withoutB (vecGet s.pflPerm (c ++ vecGet s.bsel c)) := by
  have hp := toNat_append_eq c i
  have hmap (k : Nat) (hk : k = i.toNat) : pageMap s c (vecGet s.bsel c) k =
      (vecGet s.pflMap (c ++ vecGet s.bsel c)).setWidth 16 + i.setWidth 16 := by
    rw [hk, pageMap, pflIndex, BitVec.ofNat_toNat]
  simp only [jlpTurnOff, invalidateRange_memMapAct, invalidateRange_memPermAct, vecGet_memMapAct_installPage,
    vecGet_memPermAct_installPage, BitVec.reduceToNat]
  obtain rfl | rfl := hc
  · simp only [BitVec.reduceToNat] at hp
    rw [if_neg (by omega), if_pos (by omega), if_neg (by omega), if_pos (by omega)]
    exact ⟨hmap _ (by omega), rfl⟩
  · simp only [BitVec.reduceToNat] at hp
    rw [if_pos (by omega), if_pos (by omega)]
    exact ⟨hmap _ (by omega), rfl⟩

theorem vecGet_jlpTurnOff_outside {p : BitVec 8} (hp : ¬(0x80 ≤ p.toNat ∧ p.toNat ≤ 0x9F)) (s : State) :
    vecGet (jlpTurnOff s).memMapAct p = vecGet s.memMapAct p ∧
      vecGet (jlpTurnOff s).memPermAct p = vecGet s.memPermAct p := by
  simp only [jlpTurnOff, invalidateRange_memMapAct, invalidateRange_memPermAct, vecGet_memMapAct_installPage,
    vecGet_memPermAct_installPage, BitVec.reduceToNat]
  simp (disch := omega) only [↓if_neg, and_self]

theorem jlpLock_of_none (h : s.params.jlpLockValue = none) : jlpLock v s = .refuse (.parameterOpen .jlpLockValue) := by
  rw [jlpLock, h]

theorem jlpLock_of_some {w : Option Word} (h : s.params.jlpLockValue = some w) :
    jlpLock v s = .ok () (if w = none ∨ w = some v then jlpTurnOff s else s) := by
  rw [jlpLock, h]
  cases w with
  | none => rw [if_pos (.inl rfl)]
  | some w => simp only [Option.some.injEq, reduceCtorEq, false_or, eq_comm]

/-- Settles O39: the lock is one branch, decided by the supplied lock value. -/
theorem lockTurnsAcceleratorOff : Obligations.LockTurnsAcceleratorOff := by
  intro s v hs hon hsh
  have hlock : writeBranch 0x8034#16 v (afterShadow 0x8034#16 s) = jlpLock v (afterShadow 0x8034#16 s) :=
    writeBranch_lock (by simpa using hon)
  refine ⟨fun hopen => ?missing, fun accepted hsome => ?given⟩
  case missing =>
    exact writeTransaction_of_refuse hs hsh (hlock.trans (jlpLock_of_none (by simpa using hopen)))
  case given =>
    refine ⟨_, writeTransaction_of_branch hs hsh (hlock.trans (jlpLock_of_some (by simpa using hsome))), ?_⟩
    split
    case isTrue haccept =>
      refine ⟨rfl, fun c hc i => ?pages, fun p hp => ?others, fun b => ?cache, rfl⟩
      case pages =>
        simp only [List.mem_cons, List.not_mem_nil, or_false] at hc
        have h := vecGet_jlpTurnOff (i := i) hc (afterShadow 0x8034#16 s)
        rw [afterShadow_pflMap, afterShadow_pflPerm, afterShadow_bsel] at h
        exact h
      case others =>
        have h := vecGet_jlpTurnOff_outside hp (afterShadow 0x8034#16 s)
        rw [afterShadow_memMapAct, afterShadow_memPermAct] at h
        exact h
      case cache =>
        refine (cached_written_window (by decide) b _).trans ?_
        exact congrArg (ite _ none) (cached_afterShadow _ b s)
    case isFalse hdrop =>
      exact ⟨coverReset_written (by simp), rfl⟩

end Sys2Proof.Machine
end

section
/-! The registers of the JLP, its multiplier and its divider (44_jlp_window.md R354 to R364). -/

namespace Sys2Proof.Machine

variable {s t u : State} {a v x y : Word} {k : BitVec 3} {half : BitVec 1} {n : Nat}

/-! ### The write chain -/

/-- The write chain with each condition a condition on the number of the address. -/
theorem jlpWrite_eq_ite (a v : Word) (s : State) : jlpWrite a v s =
    if a.toNat = 0x8025 then .ok () (setSgAddr v s)
    else if a.toNat = 0x8026 then .ok () (setSgRow v s)
    else if a.toNat = 0x802D then (if v = 0xC0DE#16 then ramToFlash s else .ok () s)
    else if a.toNat = 0x802E then (if v = 0xDEC0#16 then flashToRam s else .ok () s)
    else if a.toNat = 0x802F then (if v = 0xBEEF#16 then sectorErase s else .ok () s)
    else if a.toNat = 0x8034 then jlpLock v s
    else if a.toNat / 16 = 0x9F8 then .ok () (writeJlpRegister (a.extractLsb' 0 4) v s)
    else if a.toNat / 16 = 0x9F9 then .ok () (if s.params.extRegsWired then setExt (a.extractLsb' 0 4) v s else s)
    else if a.toNat = 0x9FFC then .ok () (setJlpCrc (crc16Fold s.jlpCrc v) s)
    else if a.toNat = 0x9FFD then .ok () (setJlpCrc v s)
    else .ok () s := by
  have hnum (n : Nat) (hn : n < 2 ^ 16) : a = BitVec.ofNat 16 n ↔ a.toNat = n := by
    rw [word_eq_iff, Nat.mod_eq_of_lt hn]
  simp only [jlpWrite, inJlpRegisters_iff, inExtRegisters_iff, hnum _ (by decide : 0x8025 < 2 ^ 16),
    hnum _ (by decide : 0x8026 < 2 ^ 16), hnum _ (by decide : 0x802D < 2 ^ 16), hnum _ (by decide : 0x802E < 2 ^ 16),
    hnum _ (by decide : 0x802F < 2 ^ 16), hnum _ (by decide : 0x8034 < 2 ^ 16), hnum _ (by decide : 0x9FFC < 2 ^ 16),
    hnum _ (by decide : 0x9FFD < 2 ^ 16)]

/-- With the accelerator on, a write in its window that completes there ends with the cover reset. -/
theorem writeTransaction_jlp (hs : s.quiet) (hon : s.jlpAccelOn = true) (hsh : shadowOk s a)
    (ha : 0x8000 ≤ a.toNat ∧ a.toNat ≤ 0x803F ∨ 0x9F80 ≤ a.toNat ∧ a.toNat ≤ 0x9FFE)
    (h : jlpWrite a v (afterShadow a s) = .ok () u) : writeTransaction a v s = .next (written a u) :=
  writeTransaction_of_branch hs hsh
    ((writeBranch_jlp ((afterShadow_jlpAccelOn a s).trans hon) (jlpWriteWindow_iff.mpr ha)).trans h)

theorem writeTransaction_jlp_refuse {r : Refusal} (hs : s.quiet) (hon : s.jlpAccelOn = true) (hsh : shadowOk s a)
    (ha : 0x8000 ≤ a.toNat ∧ a.toNat ≤ 0x803F ∨ 0x9F80 ≤ a.toNat ∧ a.toNat ≤ 0x9FFE)
    (h : jlpWrite a v (afterShadow a s) = .refuse r) : writeTransaction a v s = .refused r :=
  writeTransaction_of_refuse hs hsh
    ((writeBranch_jlp ((afterShadow_jlpAccelOn a s).trans hon) (jlpWriteWindow_iff.mpr ha)).trans h)

/-! ### The pairs -/

theorem toNat_pairIndex (k : BitVec 3) (half : BitVec 1) : (k ++ half : BitVec 4).toNat = k.toNat * 2 + half.toNat :=
  toNat_append_eq k half

theorem pairIndex_inj {half' : BitVec 1} : (k ++ half : BitVec 4) = k ++ half' ↔ half = half' := by
  simp only [← BitVec.toNat_inj, toNat_pairIndex]
  omega

/-- The pairs lie below the result registers and the PV register. -/
theorem pairIndex_ne {i : BitVec 4} (hk : k.toNat < 6) (hi : 12 ≤ i.toNat) : (k ++ half : BitVec 4) ≠ i := by
  have hhalf := half.isLt
  have hp := toNat_pairIndex k half
  exact fun h => by rw [h] at hp; omega

theorem addr_of_pair (hn : n < 8) :
    0x9F80#16 + BitVec.ofNat 16 (2 * n) + half.setWidth 16 = pairAddr (BitVec.ofNat 3 n) half := by
  have hhalf := half.isLt
  apply BitVec.eq_of_toNat_eq
  simp only [BitVec.toNat_add, BitVec.toNat_ofNat, BitVec.toNat_setWidth, toNat_pairAddr]
  omega

theorem index_of_pair :
    BitVec.ofNat 4 (2 * n) + half.setWidth 4 = BitVec.ofNat 3 n ++ half := by
  have hhalf := half.isLt
  apply BitVec.eq_of_toNat_eq
  simp only [BitVec.toNat_add, BitVec.toNat_ofNat, BitVec.toNat_setWidth, toNat_pairIndex]
  omega

theorem first_of_pair : BitVec.ofNat 4 (2 * n) = BitVec.ofNat 3 n ++ 0#1 := by
  apply BitVec.eq_of_toNat_eq
  simp only [BitVec.toNat_ofNat, toNat_pairIndex]
  omega

theorem second_of_pair : BitVec.ofNat 4 (2 * n + 1) = BitVec.ofNat 3 n ++ 1#1 := by
  apply BitVec.eq_of_toNat_eq
  simp only [BitVec.toNat_ofNat, toNat_pairIndex]
  omega

theorem extractLsb'_low4_pairAddr (k : BitVec 3) (half : BitVec 1) : (pairAddr k half).extractLsb' 0 4 = k ++ half :=
  extractLsb'_eq_of_toNat (by rw [toNat_pairAddr, toNat_pairIndex]; omega)

theorem pair_of_pairIndex (k : BitVec 3) (half : BitVec 1) : (k ++ half : BitVec 4).extractLsb' 1 3 = k :=
  extractLsb'_eq_of_toNat (by rw [toNat_pairIndex]; omega)

/-- A half of a pair, after a write of one half. -/
theorem jlpRegister_setJlpRegister_pair (hk : k.toNat < 6) (h : BitVec 1) (a : Word) (s : State) :
    jlpRegister (setJlpRegister (k ++ half) v (afterShadow a s)) (k ++ h) =
      if half = h then v else vecGet s.jlpReg (k ++ h) := by
  rw [jlpRegister, setJlpRegister, vecGet_set, vecGet_jlpReg_afterShadow (pairIndex_ne hk (by decide))]
  simp only [pairIndex_inj]

/-- A write of a half of a pair runs the pair's operation on the two new halves. -/
theorem writeTransaction_pair {op : Word → Word → State → State} (hk : k.toNat < 6) (hs : s.quiet)
    (hon : s.jlpAccelOn = true) (hsh : shadowOk s (pairAddr k half))
    (hop : ∀ s, muldiv k s = op (jlpRegister s (k ++ 0#1)) (jlpRegister s (k ++ 1#1)) s) :
    writeTransaction (pairAddr k half) v s = .next (written (pairAddr k half)
      (op (if half = 0#1 then v else vecGet s.jlpReg (k ++ 0#1)) (if half = 1#1 then v else vecGet s.jlpReg (k ++ 1#1))
        (setJlpRegister (k ++ half) v (afterShadow (pairAddr k half) s)))) := by
  have hhalf := half.isLt
  have ha := toNat_pairAddr k half
  refine writeTransaction_jlp hs hon hsh (by omega) ?_
  rw [jlpWrite_eq_ite, if_neg (by omega), if_neg (by omega), if_neg (by omega), if_neg (by omega), if_neg (by omega),
    if_neg (by omega), if_pos (by omega), writeJlpRegister, extractLsb'_low4_pairAddr, pair_of_pairIndex, hop,
    jlpRegister_setJlpRegister_pair hk, jlpRegister_setJlpRegister_pair hk]

theorem vecGet_setResults (low high : Word) (s : State) (i : BitVec 4) :
    vecGet (setResults low high s).jlpReg i =
      if i = 15#4 then high else if i = 14#4 then low else vecGet s.jlpReg i :=
  (vecGet_set_ite _ _ _ _).trans (congrArg (ite _ high) (vecGet_set_ite _ _ _ _))

theorem vecGet_setJlpRegister (i j : BitVec 4) (v : Word) (s : State) :
    vecGet (setJlpRegister j v s).jlpReg i = if i = j then v else vecGet s.jlpReg i :=
  vecGet_set_ite _ _ _ _

/-- The two halves of a product, joined. -/
theorem product_halves (p : BitVec 32) : (p.extractLsb' 16 16 ++ p.extractLsb' 0 16 : BitVec 32) = p := by
  apply BitVec.eq_of_toNat_eq
  have := p.isLt
  simp only [toNat_append_eq, toNat_extractLsb'_eq]
  omega

/-- A write of a half of a pair whose operation sets the two result registers alone. -/
theorem writeTransaction_pair_results {op : Word → Word → State → State} (hn : n < 6) (hs : s.quiet)
    (hon : s.jlpAccelOn = true)
    (hop : ∀ s, muldiv (BitVec.ofNat 3 n) s =
      op (jlpRegister s (BitVec.ofNat 3 n ++ 0#1)) (jlpRegister s (BitVec.ofNat 3 n ++ 1#1)) s)
    (hframe : ∀ x y s, op x y s = { s with jlpReg := (op x y s).jlpReg })
    (hkeep : ∀ x y s i, i ≠ 14#4 → i ≠ 15#4 → vecGet (op x y s).jlpReg i = vecGet s.jlpReg i) :
    let a : Word := 0x9F80#16 + BitVec.ofNat 16 (2 * n) + half.setWidth 16
    let x := if half = 0#1 then v else vecGet s.jlpReg (BitVec.ofNat 4 (2 * n))
    let y := if half = 1#1 then v else vecGet s.jlpReg (BitVec.ofNat 4 (2 * n + 1))
    shadowOk s a →
    ∃ t, writeTransaction (pairAddr (BitVec.ofNat 3 n) half) v s = .next t ∧
      t.jlpReg = (op x y (setJlpRegister (BitVec.ofNat 3 n ++ half) v (afterShadow a s))).jlpReg ∧
      (∀ i : BitVec 4, i ≠ 14#4 → i ≠ 15#4 → vecGet t.jlpReg i =
        if i = BitVec.ofNat 4 (2 * n) + half.setWidth 4 then v else vecGet (afterShadow a s).jlpReg i) ∧
      coverReset a s t ∧ t = { afterShadow a s with jlpReg := t.jlpReg, icache := t.icache, response := .done } := by
  have hk : (BitVec.ofNat 3 n).toNat < 6 := by rw [BitVec.toNat_ofNat]; omega
  rw [addr_of_pair (by omega), index_of_pair, first_of_pair, second_of_pair]
  intro a x y hsh
  refine ⟨_, writeTransaction_pair hk hs hon hsh hop, rfl, fun i h14 h15 => ?_, coverReset_written ?_, ?_⟩
  · exact (hkeep _ _ _ i h14 h15).trans (vecGet_setJlpRegister _ _ _ _)
  · rw [hframe]
    simp [setJlpRegister]
  · rw [hframe]
    rfl

theorem storeProduct_results (p : Int) (s : State) :
    vecGet (storeProduct p s).jlpReg 15#4 ++ vecGet (storeProduct p s).jlpReg 14#4 = BitVec.ofInt 32 p := by
  rw [storeProduct, vecGet_setResults, vecGet_setResults]
  exact product_halves _

theorem writeTransaction_multiply (f : Word → Word → Int) (hn : n < 6) (hs : s.quiet) (hon : s.jlpAccelOn = true)
    (hop : ∀ s, muldiv (BitVec.ofNat 3 n) s = storeProduct (f (jlpRegister s (BitVec.ofNat 3 n ++ 0#1))
      (jlpRegister s (BitVec.ofNat 3 n ++ 1#1))) s) :
    let a : Word := 0x9F80#16 + BitVec.ofNat 16 (2 * n) + half.setWidth 16
    let x := if half = 0#1 then v else vecGet s.jlpReg (BitVec.ofNat 4 (2 * n))
    let y := if half = 1#1 then v else vecGet s.jlpReg (BitVec.ofNat 4 (2 * n + 1))
    shadowOk s a →
    ∃ t, writeTransaction (pairAddr (BitVec.ofNat 3 n) half) v s = .next t ∧
      vecGet t.jlpReg 15#4 ++ vecGet t.jlpReg 14#4 = BitVec.ofInt 32 (f x y) ∧
      (∀ i : BitVec 4, i ≠ 14#4 → i ≠ 15#4 → vecGet t.jlpReg i =
        if i = BitVec.ofNat 4 (2 * n) + half.setWidth 4 then v else vecGet (afterShadow a s).jlpReg i) ∧
      coverReset a s t ∧ t = { afterShadow a s with jlpReg := t.jlpReg, icache := t.icache, response := .done } := by
  intro a x y hsh
  obtain ⟨t, ht, hreg, hrest⟩ := writeTransaction_pair_results (op := fun x y => storeProduct (f x y)) hn hs hon hop
    (fun _ _ _ => rfl) (fun x y s i h14 h15 => by rw [storeProduct, vecGet_setResults, if_neg h15, if_neg h14]) hsh
  exact ⟨t, ht, by rw [hreg]; exact storeProduct_results _ _, hrest⟩

/-- Settles O40: each multiply pair by `writeTransaction_multiply`. -/
theorem multiplyPairsGiveProduct : Obligations.MultiplyPairsGiveProduct := by
  intro s half v hs hon p hp
  simp only [List.mem_cons, List.not_mem_nil, or_false] at hp
  obtain rfl | rfl | rfl | rfl := hp
  · exact writeTransaction_multiply (n := 0) (fun x y => x.toInt * y.toInt) (by decide) hs hon fun _ => rfl
  · exact writeTransaction_multiply (n := 1) (fun x y => x.toInt * (y.toNat : Int)) (by decide) hs hon fun _ => rfl
  · exact writeTransaction_multiply (n := 2) (fun x y => (x.toNat : Int) * y.toInt) (by decide) hs hon fun _ => rfl
  · exact writeTransaction_multiply (n := 3) (fun x y => ((x.toNat * y.toNat : Nat) : Int)) (by decide) hs hon
      fun _ => rfl

/-! ### Division -/

theorem sdivRemainder_eq_tmod (x y : Int) : sdivRemainder x y = x.tmod y := by
  rw [sdivRemainder, sdivQuotient, Int.tmod_def, Int.mul_comm]

/-- A division that leaves the results where the divisor is 0. -/
def divideUnlessZero (f : Word → Word → Word × Word) (x y : Word) (s : State) : State :=
  if y = 0#16 then s else setResults (f x y).1 (f x y).2 s

theorem vecGet_divideUnlessZero (f : Word → Word → Word × Word) (x y : Word) (s : State) (i : BitVec 4) :
    vecGet (divideUnlessZero f x y s).jlpReg i =
      if y = 0#16 then vecGet s.jlpReg i
      else if i = 15#4 then (f x y).2 else if i = 14#4 then (f x y).1 else vecGet s.jlpReg i := by
  rw [divideUnlessZero]
  split
  · rfl
  · exact vecGet_setResults _ _ _ _

theorem divideUnlessZero_results (f : Word → Word → Word × Word) (x y : Word) (s : State) :
    (vecGet (divideUnlessZero f x y s).jlpReg 14#4, vecGet (divideUnlessZero f x y s).jlpReg 15#4) =
      if y = 0#16 then (vecGet s.jlpReg 14#4, vecGet s.jlpReg 15#4) else f x y := by
  rw [vecGet_divideUnlessZero, vecGet_divideUnlessZero]
  split <;> rfl

theorem divSs_eq_divideUnlessZero (x y : Word) (s : State) : divSs x y s = divideUnlessZero
    (fun x y => (BitVec.ofInt 16 (x.toInt.tdiv y.toInt), BitVec.ofInt 16 (x.toInt.tmod y.toInt))) x y s := by
  rw [divSs, divideUnlessZero, storeQuotient, sdivRemainder_eq_tmod]
  rfl

theorem divUu_eq_divideUnlessZero (x y : Word) (s : State) :
    divUu x y s = divideUnlessZero (fun x y => (x / y, x % y)) x y s := by
  rw [divUu, divideUnlessZero, storeQuotient, BitVec.ofInt_natCast, BitVec.ofInt_natCast, ← BitVec.toNat_udiv,
    ← BitVec.toNat_umod, BitVec.ofNat_toNat, BitVec.ofNat_toNat, BitVec.setWidth_eq, BitVec.setWidth_eq]

theorem writeTransaction_divide (f : Word → Word → Word × Word) (hn : n < 6) (hs : s.quiet) (hon : s.jlpAccelOn = true)
    (hop : ∀ s, muldiv (BitVec.ofNat 3 n) s = divideUnlessZero f (jlpRegister s (BitVec.ofNat 3 n ++ 0#1))
      (jlpRegister s (BitVec.ofNat 3 n ++ 1#1)) s) :
    let a : Word := 0x9F80#16 + BitVec.ofNat 16 (2 * n) + half.setWidth 16
    let x := if half = 0#1 then v else vecGet s.jlpReg (BitVec.ofNat 4 (2 * n))
    let y := if half = 1#1 then v else vecGet s.jlpReg (BitVec.ofNat 4 (2 * n + 1))
    shadowOk s a →
    ∃ t, writeTransaction (pairAddr (BitVec.ofNat 3 n) half) v s = .next t ∧
      (vecGet t.jlpReg 14#4, vecGet t.jlpReg 15#4) =
        (if y = 0#16 then (vecGet s.jlpReg 14#4, vecGet s.jlpReg 15#4) else f x y) ∧
      (∀ i : BitVec 4, i ≠ 14#4 → i ≠ 15#4 → vecGet t.jlpReg i =
        if i = BitVec.ofNat 4 (2 * n) + half.setWidth 4 then v else vecGet (afterShadow a s).jlpReg i) ∧
      coverReset a s t ∧ t = { afterShadow a s with jlpReg := t.jlpReg, icache := t.icache, response := .done } := by
  intro a x y hsh
  have hk : (BitVec.ofNat 3 n).toNat < 6 := by rw [BitVec.toNat_ofNat]; omega
  have hold {i : BitVec 4} (hi : 14 ≤ i.toNat) (h13 : i ≠ 13#4) :
      vecGet (setJlpRegister (BitVec.ofNat 3 n ++ half) v (afterShadow a s)).jlpReg i = vecGet s.jlpReg i := by
    rw [vecGet_setJlpRegister, if_neg (Ne.symm (pairIndex_ne hk (by omega))), vecGet_jlpReg_afterShadow h13]
  obtain ⟨t, ht, hreg, hrest⟩ := writeTransaction_pair_results hn hs hon hop
    (fun x y s => by rw [divideUnlessZero]; split <;> rfl)
    (fun x y s i h14 h15 => by rw [vecGet_divideUnlessZero, if_neg h15, if_neg h14, ite_self]) hsh
  refine ⟨t, ht, ?_, hrest⟩
  rw [hreg]
  refine (divideUnlessZero_results f x y _).trans ?_
  rw [hold (by decide) (by decide), hold (by decide) (by decide)]

/-- Settles O41: each divide pair by `writeTransaction_divide`. -/
theorem dividePairsGiveQuotientAndRemainder : Obligations.DividePairsGiveQuotientAndRemainder := by
  intro s half v hs hon p hp
  simp only [List.mem_cons, List.not_mem_nil, or_false] at hp
  obtain rfl | rfl := hp
  · exact writeTransaction_divide (n := 4) _ (by decide) hs hon fun _ => divSs_eq_divideUnlessZero _ _ _
  · exact writeTransaction_divide (n := 5) _ (by decide) hs hon fun _ => divUu_eq_divideUnlessZero _ _ _

/-- Settles O42: the quotient and the remainder are those of the truncated division. -/
theorem signedDivisionTruncates : Obligations.SignedDivisionTruncates := by
  refine ⟨fun x y hy => ⟨?sum, ?small, fun hx => ?nonneg, fun hx => ?nonpos⟩, by decide, by decide⟩
  case sum => rw [sdivRemainder]; omega
  case small =>
    rw [sdivRemainder_eq_tmod, Int.abs_eq_natAbs, Int.abs_eq_natAbs, Int.natAbs_tmod]
    exact Int.ofNat_lt.mpr (Nat.mod_lt _ (Int.natAbs_pos.mpr hy))
  case nonneg =>
    rw [sdivRemainder_eq_tmod]
    exact Int.tmod_nonneg _ hx
  case nonpos =>
    rw [sdivRemainder_eq_tmod]
    have h := Int.tmod_nonneg y (a := -x) (by omega)
    rw [Int.neg_tmod] at h
    omega

/-! ### The registers that start no operation -/

theorem muldiv_of_no_pair (hk : 6 ≤ k.toNat) (s : State) : muldiv k s = s := by
  unfold muldiv
  split
  case h_7 => rfl
  all_goals omega

/-- Settles O43: each register row is the write at its address, and the chain decides what it sets. -/
theorem jlpRegisterWrites : Obligations.JlpRegisterWrites := by
  intro s v hs hon
  have hwrite {a : Word} {u : State} (hsh : shadowOk s a)
      (ha : 0x8000 ≤ a.toNat ∧ a.toNat ≤ 0x803F ∨ 0x9F80 ≤ a.toNat ∧ a.toNat ≤ 0x9FFE)
      (h : jlpWrite a v (afterShadow a s) = .ok () u) : writeTransaction a v s = .next (written a u) :=
    writeTransaction_jlp hs hon hsh ha h
  refine ⟨fun i hsh => ?register, fun hsh => ?address, fun hsh => ?row, fun hsh => ?fold, fun hsh => ?crc,
    fun i hsh => ?extended, fun hsh => ?unlock, fun a hsh ha hnot => ?none⟩
  case register =>
    have hi : (3#2 ++ i : BitVec 4).toNat = 3 * 4 + i.toNat := toNat_append_eq 3#2 i
    have ha := toNat_jlpRegAddr (3#2 ++ i)
    have hisLt := i.isLt
    refine ⟨_, hwrite hsh (by omega) ?_, coverReset_written (u := setJlpRegister (3#2 ++ i) v _)
      (afterShadow_icache _ s), rfl⟩
    have hpair : ((3#2 ++ i : BitVec 4).extractLsb' 1 3).toNat = (3#2 ++ i : BitVec 4).toNat / 2 % 8 :=
      toNat_extractLsb'_eq ..
    rw [jlpWrite_eq_ite, if_neg (by omega), if_neg (by omega), if_neg (by omega), if_neg (by omega),
      if_neg (by omega), if_neg (by omega), if_pos (by omega), writeJlpRegister, extractLsb'_low4_jlpRegAddr,
      muldiv_of_no_pair (by omega)]
  case address => exact ⟨_, hwrite hsh (by decide) rfl, coverReset_written (afterShadow_icache _ s), rfl⟩
  case row => exact ⟨_, hwrite hsh (by decide) rfl, coverReset_written (afterShadow_icache _ s), rfl⟩
  case fold =>
    refine ⟨_, hwrite hsh (by decide) rfl, coverReset_written (afterShadow_icache _ s), ?_⟩
    rw [afterShadow_jlpCrc]
    rfl
  case crc => exact ⟨_, hwrite hsh (by decide) rfl, coverReset_written (afterShadow_icache _ s), rfl⟩
  case extended =>
    have ha := toNat_extRegAddr i
    have hext : jlpWrite (extRegAddr i) v (afterShadow (extRegAddr i) s) =
        .ok () (if s.params.extRegsWired then setExt i v (afterShadow (extRegAddr i) s)
          else afterShadow (extRegAddr i) s) := by
      rw [jlpWrite_eq_ite, if_neg (by omega), if_neg (by omega), if_neg (by omega), if_neg (by omega),
        if_neg (by omega), if_neg (by omega), if_neg (by omega), if_pos (by omega), extractLsb'_low4_extRegAddr,
        afterShadow_params]
    refine ⟨_, hwrite hsh (by omega) hext, ?_⟩
    split
    case isTrue hwired =>
      refine ⟨fun j => ?_, coverReset_written (afterShadow_icache _ s), rfl⟩
      refine (vecGet_set_ite _ _ _ _).trans ?_
      rw [afterShadow_ext]
      simp only [hwired, true_and]
    case isFalse hunwired =>
      refine ⟨fun j => ?_, coverReset_written (afterShadow_icache _ s), rfl⟩
      rw [if_neg fun h => hunwired h.1]
      exact congrArg (vecGet · j) (afterShadow_ext _ s)
  case unlock => exact ⟨_, hwrite hsh (by decide) rfl, coverReset_written (afterShadow_icache _ s), rfl⟩
  case none =>
    have hnum (n : Nat) : a = BitVec.ofNat 16 n ↔ a.toNat = n % 2 ^ 16 := word_eq_iff a n
    simp only [List.mem_cons, List.not_mem_nil, or_false, not_or, hnum] at ha hnot
    refine ⟨_, hwrite hsh (by omega) ?_, coverReset_written (afterShadow_icache _ s), rfl⟩
    rw [jlpWrite_eq_ite, if_neg (by omega), if_neg (by omega), if_neg (by omega), if_neg (by omega),
      if_neg (by omega), if_neg (by omega), if_neg (by omega), if_neg (by omega), if_neg (by omega), if_neg (by omega)]

/-- Settles O48: without its magic value each command register drops the write. -/
theorem wrongMagicDoesNothing : Obligations.WrongMagicDoesNothing := by
  intro s v hs hon p hp hv hsh
  simp only [List.mem_cons, List.not_mem_nil, or_false] at hp
  have hdrop {a : Word} (hsh : shadowOk s a) (ha : 0x8000 ≤ a.toNat ∧ a.toNat ≤ 0x803F)
      (h : jlpWrite a v (afterShadow a s) = .ok () (afterShadow a s)) :
      ∃ t, writeTransaction a v s = .next t ∧ coverReset a s t ∧
        t = { afterShadow a s with icache := t.icache, response := .done } :=
    ⟨_, writeTransaction_jlp hs hon hsh (.inl ha) h, coverReset_written (afterShadow_icache _ s), rfl⟩
  obtain rfl | rfl | rfl := hp
  · exact hdrop hsh (by decide) (if_neg hv)
  · exact hdrop hsh (by decide) (if_neg hv)
  · exact hdrop hsh (by decide) (if_neg hv)

end Sys2Proof.Machine
end

section
/-! The two copies of the save-game flash and the checks of its commands (44_jlp_window.md R364 to R370). -/

namespace Sys2Proof.Machine

variable {s t u : State} {a v w : Word} {rw row j k count n lo hi : Nat}

/-! ### The flash and its rows -/

theorem flashByte_setFlashByte (k i : Nat) (b : Byte) (s : State) :
    flashByte (setFlashByte k b s) i = if i = k then b else flashByte s i := by
  rw [flashByte, setFlashByte, tableGet_set]
  simp only [eq_comm (a := k)]
  rfl

theorem flashByte_setFlashWord (w : Word) (i : Nat) (s : State) :
    flashByte (setFlashWord rw row j w s) i =
      if i = flashKey rw row (2 * j + 1) then w.extractLsb' 8 8
      else if i = flashKey rw row (2 * j) then w.extractLsb' 0 8 else flashByte s i := by
  rw [setFlashWord, flashByte_setFlashByte, flashByte_setFlashByte]

theorem flashByte_setFlashWord_low (w : Word) (s : State) :
    flashByte (setFlashWord rw row j w s) (flashKey rw row (2 * j)) = w.extractLsb' 0 8 := by
  rw [flashByte_setFlashWord, if_neg (by simp only [flashKey]; omega), if_pos rfl]

theorem flashByte_setFlashWord_high (w : Word) (s : State) :
    flashByte (setFlashWord rw row j w s) (flashKey rw row (2 * j + 1)) = w.extractLsb' 8 8 := by
  rw [flashByte_setFlashWord, if_pos rfl]

/-- The two bytes of a word, joined again (44_jlp_window.md R370). -/
theorem word_of_bytes (w : Word) : (w.extractLsb' 8 8 ++ w.extractLsb' 0 8 : Word) = w := by
  apply BitVec.eq_of_toNat_eq
  have := w.isLt
  simp only [toNat_append_eq, toNat_extractLsb'_eq]
  omega

theorem rowErased_iff :
    rowErased n row s = true ↔ ∀ j < 2 * n, flashByte s (row * (2 * n) + j) = 0xFF#8 := by
  simp only [rowErased, List.all_eq_true, List.mem_range, beq_iff_eq]
  rfl

/-! ### RAM to flash -/

/-- The place in the store of word j of the staged area. -/
def stagedPlace (s : State) (j : Nat) : Nat := phys s (stagedAddress s j)

/-- A copy of words that lie inside the store completes. -/
theorem copyToFlash_completes (h : ∀ i, j ≤ i → i < j + count → stagedPlace s i < ramWords) :
    ∃ t, copyToFlash rw row count j s = .ok () t := by
  induction count generalizing j s with
  | zero => exact ⟨s, rfl⟩
  | succ count ih =>
    have hread : ramRead (phys s (stagedAddress s j)) s = .ok (ramWord s (stagedPlace s j)) s :=
      ramRead_eq_ok.mpr ⟨h j (by omega) (by omega), rfl, rfl⟩
    rw [copyToFlash, hread, andThen_ok]
    exact ih fun i hi hcount => h i (by omega) (by omega)

theorem copyToFlash_succ (h : copyToFlash rw row (count + 1) j s = .ok () t) :
    copyToFlash rw row count (j + 1) (setFlashWord rw row j (ramWord s (stagedPlace s j)) s) = .ok () t := by
  obtain ⟨w, u, hread, hrest⟩ := andThen_eq_ok.mp h
  obtain ⟨-, rfl, rfl⟩ := ramRead_eq_ok.mp hread
  exact hrest

/-- The bytes outside the copied words stay. -/
theorem flashByte_copyToFlash_outside (h : copyToFlash rw row count j s = .ok () t)
    (hk : k < flashKey rw row (2 * j) ∨ flashKey rw row (2 * (j + count)) ≤ k) : flashByte t k = flashByte s k := by
  induction count generalizing j s with
  | zero => cases h; rfl
  | succ count ih =>
    simp only [flashKey] at hk
    rw [ih (copyToFlash_succ h) (by simp only [flashKey]; omega), flashByte_setFlashWord,
      if_neg (by simp only [flashKey]; omega), if_neg (by simp only [flashKey]; omega)]

/-- The bytes of a copied word, the low one first (44_jlp_window.md R366, R370). -/
theorem flashByte_copyToFlash (h : copyToFlash rw row count j s = .ok () t) {i : Nat} (hj : j ≤ i)
    (hi : i < j + count) :
    flashByte t (flashKey rw row (2 * i)) = (ramWord s (stagedPlace s i)).extractLsb' 0 8 ∧
      flashByte t (flashKey rw row (2 * i + 1)) = (ramWord s (stagedPlace s i)).extractLsb' 8 8 := by
  induction count generalizing j s with
  | zero => omega
  | succ count ih =>
    have hrest := copyToFlash_succ h
    obtain rfl | hlt : i = j ∨ j + 1 ≤ i := by omega
    · rw [flashByte_copyToFlash_outside hrest (by simp only [flashKey]; omega), flashByte_setFlashWord_low,
        flashByte_copyToFlash_outside hrest (by simp only [flashKey]; omega), flashByte_setFlashWord_high]
      exact ⟨rfl, rfl⟩
    · have hrec := ih hrest hlt (by omega)
      exact hrec

/-- A copied word, read back from the flash. -/
theorem flashWord_copyToFlash (h : copyToFlash rw row count j s = .ok () t) {i : Nat} (hj : j ≤ i)
    (hi : i < j + count) : flashWord rw row i t = ramWord s (stagedPlace s i) := by
  obtain ⟨hlow, hhigh⟩ := flashByte_copyToFlash h hj hi
  rw [flashWord, hlow, hhigh, word_of_bytes]

/-! ### Flash to RAM -/

theorem copyToRam_succ (h : copyToRam rw row (count + 1) j s = .ok () t) :
    ∃ u, ramWrite (stagedPlace s j) (flashWord rw row j s) s = .ok () u ∧ copyToRam rw row count (j + 1) u = .ok () t := by
  obtain ⟨_, u, hwrite, hrest⟩ := andThen_eq_ok.mp h
  exact ⟨u, hwrite, hrest⟩

theorem stagedPlace_ramWrite {pa : Nat} (h : ramWrite pa w s = .ok () t) (i : Nat) :
    stagedPlace t i = stagedPlace s i := by
  obtain ⟨-, rfl⟩ := ramWrite_eq_ok.mp h
  rfl

theorem flashWord_ramWrite {pa : Nat} (h : ramWrite pa w s = .ok () t) (i : Nat) :
    flashWord rw row i t = flashWord rw row i s := by
  obtain ⟨-, rfl⟩ := ramWrite_eq_ok.mp h
  rfl

/-- A copy to words that lie inside the store completes. -/
theorem copyToRam_completes (h : ∀ i, j ≤ i → i < j + count → stagedPlace s i < ramWords) :
    ∃ t, copyToRam rw row count j s = .ok () t := by
  induction count generalizing j s with
  | zero => exact ⟨s, rfl⟩
  | succ count ih =>
    have hwrite : ramWrite (stagedPlace s j) (flashWord rw row j s) s = .ok () _ :=
      ramWrite_eq_ok.mpr ⟨h j (by omega) (by omega), rfl⟩
    rw [copyToRam, show ramWrite (phys s (stagedAddress s j)) (flashWord rw row j s) s = _ from hwrite, andThen_ok]
    refine ih fun i hi hcount => ?_
    rw [stagedPlace_ramWrite hwrite]
    exact h i (by omega) (by omega)

/-- The words of the store outside the copied ones stay. -/
theorem ramWord_copyToRam_outside (h : copyToRam rw row count j s = .ok () t)
    (hk : ∀ i, j ≤ i → i < j + count → stagedPlace s i ≠ k) :
    ramWord t k = ramWord s k ∧ isInitialized t k = isInitialized s k := by
  induction count generalizing j s with
  | zero => cases h; exact ⟨rfl, rfl⟩
  | succ count ih =>
    obtain ⟨u, hwrite, hrest⟩ := copyToRam_succ h
    obtain ⟨hword, hmark⟩ := ih hrest fun i hi hcount => by
      rw [stagedPlace_ramWrite hwrite]
      exact hk i (by omega) (by omega)
    have hne := hk j (by omega) (by omega)
    rw [hword, hmark, ramWord_ramWrite hwrite, isInitialized_ramWrite hwrite, if_neg hne, if_neg hne]
    exact ⟨rfl, rfl⟩

/-- Distinct places of a staged area. -/
def StagedApart (s : State) (n : Nat) : Prop :=
  ∀ j < n, ∀ k < n, stagedPlace s j = stagedPlace s k → j = k

/-- A copied word of the store and its mark (44_jlp_window.md R367). -/
theorem ramWord_copyToRam (h : copyToRam rw row count j s = .ok () t) (hapart : StagedApart s (j + count)) {i : Nat}
    (hj : j ≤ i) (hi : i < j + count) :
    ramWord t (stagedPlace s i) = flashWord rw row i s ∧ isInitialized t (stagedPlace s i) = true := by
  induction count generalizing j s with
  | zero => omega
  | succ count ih =>
    obtain ⟨u, hwrite, hrest⟩ := copyToRam_succ h
    have hplace := stagedPlace_ramWrite hwrite
    have hnext : StagedApart u (j + 1 + count) := fun x hx y hy hxy => by
      rw [hplace, hplace] at hxy
      exact hapart x (by omega) y (by omega) hxy
    obtain rfl | hlt : i = j ∨ j + 1 ≤ i := by omega
    · obtain ⟨hword, hmark⟩ := ramWord_copyToRam_outside (k := stagedPlace s i) hrest fun x hx hcount hxi => by
        rw [hplace] at hxi
        have := hapart x (by omega) i (by omega) hxi
        omega
      rw [hword, hmark, ramWord_ramWrite hwrite, isInitialized_ramWrite hwrite, if_pos rfl, if_pos rfl]
      exact ⟨rfl, rfl⟩
    · have hrec := ih hrest hnext hlt (by omega)
      rw [hplace, flashWord_ramWrite hwrite] at hrec
      exact hrec

/-! ### The checks -/

theorem both_ok (x y : Bool) : Check.both (.ok x) (.ok y) = .ok (x && y) := by
  cases x <;> cases y <;> rfl

theorem both_false_left (y : Check) : Check.both (.ok false) y = .ok false := rfl

theorem both_false_right (x : Check) : Check.both x (.ok false) = .ok false := by
  rcases x with _ | _ | _ <;> rfl

theorem both_true_left (y : Check) : Check.both (.ok true) y = y := by
  rcases y with _ | _ | _ <;> rfl

theorem both_error_left {p : OpenParam} {y : Check} (hy : y ≠ .ok false) : Check.both (.error p) y = .error p := by
  rcases y with _ | _ | _
  · rfl
  · exact absurd rfl hy
  · rfl

theorem checkParam_some (name : OpenParam) (n : Nat) (test : Nat → Bool) :
    checkParam name (some n) test = .ok (test n) := rfl

theorem flashBound_on {p : Params} (h : p.jlpMode = .accelFlashOn) (bound : Option Nat) : flashBound p bound = bound :=
  if_pos h

theorem flashBound_off {p : Params} (h : p.jlpMode ≠ .accelFlashOn) (bound : Option Nat) : flashBound p bound = some 0 :=
  if_neg h

/-- `row_ok` of a supplied geometry (44_jlp_window.md R365). -/
theorem rowOk_supplied {p : Params} (hmode : p.jlpMode = .accelFlashOn) (hlo : p.flashStartRow = some lo)
    (hhi : p.flashEndRow = some hi) (row : Word) : rowOk p row = .ok (decide (lo ≤ row.toNat ∧ row.toNat < hi)) := by
  rw [rowOk, flashBound_on hmode, flashBound_on hmode, hlo, hhi, checkParam_some, checkParam_some, both_ok,
    Bool.decide_and]

theorem addrOk_supplied {p : Params} (hn : p.flashRowWords = some n) (addr : Word) :
    addrOk p addr = .ok (decide (0x8040 ≤ addr.toNat ∧ addr.toNat + n - 1 ≤ 0x9F7F)) := by
  rw [addrOk, hn, checkParam_some, both_ok, ← Bool.decide_and, ← Bool.decide_and]
  refine congrArg _ (decide_eq_decide.mpr ?_)
  omega

/-- `valid` of a supplied geometry (44_jlp_window.md R365). -/
theorem copyValid_supplied (hmode : s.params.jlpMode = .accelFlashOn) (hn : s.params.flashRowWords = some n)
    (hlo : s.params.flashStartRow = some lo) (hhi : s.params.flashEndRow = some hi) :
    copyValid s = .ok (decide (lo ≤ s.sgRow.toNat ∧ s.sgRow.toNat < hi ∧ 0x8040 ≤ s.sgAddr.toNat ∧
      s.sgAddr.toNat + n - 1 ≤ 0x9F7F)) := by
  rw [copyValid, rowOk_supplied hmode hlo hhi, addrOk_supplied hn, both_ok, ← Bool.decide_and]
  simp only [and_assoc]

theorem whenValid_false (s : State) (k : Nat → Res Unit) : whenValid (.ok false) s k = .ok () s := rfl

theorem whenValid_error (p : OpenParam) (s : State) (k : Nat → Res Unit) :
    whenValid (.error p) s k = .refuse (.parameterOpen p) := rfl

theorem whenValid_true (hn : s.params.flashRowWords = some n) (k : Nat → Res Unit) : whenValid (.ok true) s k = k n := by
  rw [whenValid, hn]

theorem whenValid_true_none (hn : s.params.flashRowWords = none) (k : Nat → Res Unit) :
    whenValid (.ok true) s k = .refuse (.parameterOpen .flashRowWords) := by
  rw [whenValid, hn]

/-- The latency of a command lies in its range (44_jlp_window.md R369). -/
theorem drawSleep_range (lo : Nat) (hcount : 0 < count) (s : State) :
    lo ≤ (drawSleep lo count s).jlpSleep ∧ (drawSleep lo count s).jlpSleep ≤ lo + count - 1 := by
  have := Nat.mod_lt (Config.drawNat s.draws) hcount
  change lo ≤ lo + _ % count ∧ lo + _ % count ≤ lo + count - 1
  omega

end Sys2Proof.Machine
end

section
/-! The save-game commands (44_jlp_window.md R365 to R370, 95_test_vectors.md V-L1-8). -/

namespace Sys2Proof.Machine

variable {s t u : State} {a v w : Word} {n lo hi : Nat}

/-! ### The state a command runs on -/

/-- The state the copy or the erase of a command starts from: the shadow taken, the latency drawn. -/
def charged (a : Word) (lo count : Nat) (s : State) : State := drawSleep lo count (afterShadow a s)

variable {count least : Nat}

theorem flashByte_charged (k : Nat) : flashByte (charged a least count s) k = flashByte s k :=
  congrArg (tableGet flashDefault · k) (afterShadow_flash a s)

theorem ramWord_charged (k : Nat) : ramWord (charged a least count s) k = ramWord s k := ramWord_afterShadow a s k

theorem isInitialized_charged (k : Nat) : isInitialized (charged a least count s) k = isInitialized s k :=
  congrArg (tableGet false · k) (afterShadow_initialized a s)

theorem stagedPlace_charged (j : Nat) :
    stagedPlace (charged a least count s) j = phys s (s.sgAddr + BitVec.ofNat 16 j) := by
  refine (phys_afterShadow a _ s).trans ?_
  exact congrArg (fun x : Word => phys s (x + BitVec.ofNat 16 j)) (afterShadow_sgAddr a s)

theorem sgRow_charged : (charged a least count s).sgRow = s.sgRow := afterShadow_sgRow a s

theorem params_charged : (charged a least count s).params = s.params := afterShadow_params a s

theorem copyValid_afterShadow : copyValid (afterShadow a s) = copyValid s := by
  rw [copyValid, afterShadow_params, afterShadow_sgRow, afterShadow_sgAddr]
  rfl

/-- A command that leaves no more than its latency (44_jlp_window.md R369). -/
theorem written_charged (a : Word) (least : Nat) (hcount : 0 < count) (s : State) :
    least ≤ (written a (charged a least count s)).jlpSleep ∧
      (written a (charged a least count s)).jlpSleep ≤ least + count - 1 ∧
      coverReset a s (written a (charged a least count s)) ∧
      written a (charged a least count s) = { afterShadow a s with
        jlpSleep := (written a (charged a least count s)).jlpSleep
        draws := (written a (charged a least count s)).draws
        icache := (written a (charged a least count s)).icache, response := .done } := by
  have hsleep := drawSleep_range least hcount (afterShadow a s)
  exact ⟨hsleep.1, hsleep.2, coverReset_written (afterShadow_icache _ s), rfl⟩

/-! ### RAM to flash -/

theorem writeTransaction_ramToFlash (hs : s.quiet) (hon : s.jlpAccelOn = true) (hsh : shadowOk s 0x802D#16)
    (h : ramToFlash (afterShadow 0x802D#16 s) = .ok () u) :
    writeTransaction 0x802D#16 0xC0DE#16 s = .next (written 0x802D#16 u) :=
  writeTransaction_jlp hs hon hsh (by decide) h

theorem ramToFlash_afterShadow : ramToFlash (afterShadow 0x802D#16 s) =
    whenValid (copyValid s) (charged 0x802D#16 400 200 s) fun n =>
      if rowErased n s.sgRow.toNat (charged 0x802D#16 400 200 s) then
        copyToFlash n s.sgRow.toNat n 0 (charged 0x802D#16 400 200 s)
      else .ok () (charged 0x802D#16 400 200 s) := by
  rw [← copyValid_afterShadow (a := 0x802D#16), ← sgRow_charged (a := 0x802D#16) (least := 400) (count := 200)]
  rfl

theorem rowErased_charged : rowErased n s.sgRow.toNat (charged a least count s) = true ↔
    ∀ j < 2 * n, flashByte s (s.sgRow.toNat * (2 * n) + j) = 0xFF#8 := by
  simp only [rowErased_iff, flashByte_charged]

/-- Settles O44: the copy runs where the check and the erased row hold, and only the latency is charged elsewhere. -/
theorem ramToFlashWritesErasedRow : Obligations.RamToFlashWritesErasedRow := by
  intro s n lo hi hs hon hsh hmode hn hlo hhi hplaces row valid erased
  have hcheck : copyValid s = .ok (decide valid) := copyValid_supplied hmode hn hlo hhi
  have hwords : (charged 0x802D#16 400 200 s).params.flashRowWords = some n := by rw [params_charged, hn]
  by_cases hcopy : valid ∧ erased
  case pos =>
    obtain ⟨t, ht⟩ := copyToFlash_completes (rw := n) (row := s.sgRow.toNat) (j := 0) (count := n)
      (s := charged 0x802D#16 400 200 s) fun i _ hi => by
        rw [stagedPlace_charged]
        exact hplaces i (by omega)
    have hcmd : ramToFlash (afterShadow 0x802D#16 s) = .ok () t := by
      rw [ramToFlash_afterShadow, hcheck, decide_eq_true hcopy.1, whenValid_true hwords,
        if_pos (rowErased_charged.mpr hcopy.2), ht]
    have hframe := copyToFlash_frame.1 () ht
    have hsleep := drawSleep_range 400 (count := 200) (by decide) (afterShadow 0x802D#16 s)
    refine ⟨_, writeTransaction_ramToFlash hs hon hsh hcmd, ?least, ?most, fun _ => ⟨fun j hj => ?bytes, fun k hk => ?others⟩,
      fun h => absurd hcopy h, coverReset_written ?cover, ?frame⟩
    case least => rw [hframe]; exact hsleep.1
    case most => rw [hframe]; exact hsleep.2
    case bytes =>
      have hword := flashByte_copyToFlash ht (i := j) (by omega) (by omega)
      rw [stagedPlace_charged, ramWord_charged] at hword
      exact hword
    case others =>
      have hkeep := flashByte_copyToFlash_outside ht (k := k) (by simp only [flashKey]; omega)
      exact hkeep.trans (flashByte_charged k)
    case cover => rw [hframe]; exact afterShadow_icache _ s
    case frame => rw [hframe]; rfl
  case neg =>
    have hcmd : ramToFlash (afterShadow 0x802D#16 s) = .ok () (charged 0x802D#16 400 200 s) := by
      rw [ramToFlash_afterShadow, hcheck]
      by_cases hvalid : valid
      · rw [decide_eq_true hvalid, whenValid_true hwords, if_neg fun h => hcopy ⟨hvalid, rowErased_charged.mp h⟩]
      · rw [decide_eq_false hvalid, whenValid_false]
    obtain ⟨hleast, hmost, hcover, hframe⟩ := written_charged 0x802D#16 400 (count := 200) (by decide) s
    exact ⟨_, writeTransaction_ramToFlash hs hon hsh hcmd, hleast, hmost, fun h => absurd h hcopy,
      fun _ => afterShadow_flash _ s, hcover, hframe⟩

/-! ### Flash to RAM -/

theorem writeTransaction_flashToRam (hs : s.quiet) (hon : s.jlpAccelOn = true) (hsh : shadowOk s 0x802E#16)
    (h : flashToRam (afterShadow 0x802E#16 s) = .ok () u) :
    writeTransaction 0x802E#16 0xDEC0#16 s = .next (written 0x802E#16 u) :=
  writeTransaction_jlp hs hon hsh (by decide) h

theorem flashToRam_afterShadow : flashToRam (afterShadow 0x802E#16 s) =
    whenValid (copyValid s) (charged 0x802E#16 10 20 s) fun n =>
      (copyToRam n s.sgRow.toNat n 0 (charged 0x802E#16 10 20 s)).andThen fun _ t =>
        .ok () (invalidateRange t.sgAddr (BitVec.ofNat 16 (t.sgAddr.toNat + n - 1)) t) := by
  rw [← copyValid_afterShadow (a := 0x802E#16), ← sgRow_charged (a := 0x802E#16) (least := 10) (count := 20)]
  rfl

/-- The range of a copied area, two words before it included. -/
theorem rangeCover_staged {addr b : Word} (hlow : 0x8040 ≤ addr.toNat) (hhigh : addr.toNat + n - 1 ≤ 0x9F7F) :
    rangeCover addr (BitVec.ofNat 16 (addr.toNat + n - 1)) b.toNat = true ↔ (b - (addr - 2#16)).toNat ≤ n + 1 := by
  simp only [rangeCover, Bool.or_eq_true, Bool.and_eq_true, decide_eq_true_eq, BitVec.le_def, BitVec.toNat_sub,
    BitVec.toNat_ofNat]
  omega

/-- Settles O45: the copy runs where the check holds, and only the latency is charged elsewhere. -/
theorem flashToRamRestoresWords : Obligations.FlashToRamRestoresWords := by
  intro s n lo hi hs hon hsh hmode hn hlo hhi hplaces hapart row valid staged
  have hcheck : copyValid s = .ok (decide valid) := copyValid_supplied hmode hn hlo hhi
  have hwords : (charged 0x802E#16 10 20 s).params.flashRowWords = some n := by rw [params_charged, hn]
  by_cases hvalid : valid
  case pos =>
    obtain ⟨t, ht⟩ := copyToRam_completes (rw := n) (row := s.sgRow.toNat) (j := 0) (count := n)
      (s := charged 0x802E#16 10 20 s) fun i _ hi => by
        rw [stagedPlace_charged]
        exact hplaces i (by omega)
    have hframe := copyToRam_frame.1 () ht
    have haddr : t.sgAddr = s.sgAddr := by rw [hframe]; exact afterShadow_sgAddr _ s
    have hicache : t.icache = s.icache := by rw [hframe]; exact afterShadow_icache _ s
    have hcmd : flashToRam (afterShadow 0x802E#16 s) =
        .ok () (invalidateRange s.sgAddr (BitVec.ofNat 16 (s.sgAddr.toNat + n - 1)) t) := by
      rw [flashToRam_afterShadow, hcheck, decide_eq_true hvalid, whenValid_true hwords, ht, andThen_ok, haddr]
    have hsleep := drawSleep_range 10 (count := 20) (by decide) (afterShadow 0x802E#16 s)
    have happart' : StagedApart (charged 0x802E#16 10 20 s) (0 + n) := fun j hj k hk h => by
      rw [stagedPlace_charged, stagedPlace_charged] at h
      exact hapart j (by omega) k (by omega) h
    have hcopied (j : Nat) (hj : j < n) := ramWord_copyToRam ht happart' (i := j) (by omega) (by omega)
    refine ⟨_, writeTransaction_flashToRam hs hon hsh hcmd, ?least, ?most, fun _ => ⟨fun j hj => ?words, fun j hj => ?marks,
      fun k hk => ?others⟩, fun h => absurd hvalid h, fun b => ?cache, ?frame⟩
    case least => rw [hframe]; exact hsleep.1
    case most => rw [hframe]; exact hsleep.2
    case words =>
      have hword := (hcopied j hj).1
      rw [stagedPlace_charged, flashWord, flashByte_charged, flashByte_charged] at hword
      exact hword
    case marks =>
      have hmark := (hcopied j hj).2
      rw [stagedPlace_charged] at hmark
      exact hmark
    case others =>
      have hkeep := ramWord_copyToRam_outside ht (k := k) fun i _ hi h => by
        rw [stagedPlace_charged] at h
        exact hk ⟨i, by omega, h⟩
      rw [ramWord_charged, isInitialized_charged] at hkeep
      exact hkeep
    case cache =>
      rw [cached_written, cached_invalidateRange]
      simp only [rangeCover_staged hvalid.2.2.1 hvalid.2.2.2, hvalid, true_and]
      rw [cached, cached, hicache]
      rfl
    case frame => rw [hframe]; rfl
  case neg =>
    have hcmd : flashToRam (afterShadow 0x802E#16 s) = .ok () (charged 0x802E#16 10 20 s) := by
      rw [flashToRam_afterShadow, hcheck, decide_eq_false hvalid, whenValid_false]
    obtain ⟨hleast, hmost, hcover, hframe⟩ := written_charged 0x802E#16 10 (count := 20) (by decide) s
    refine ⟨_, writeTransaction_flashToRam hs hon hsh hcmd, hleast, hmost, fun h => absurd h hvalid,
      fun _ => ⟨afterShadow_ram _ s, afterShadow_initialized _ s⟩, fun b => ?_, hframe⟩
    simp only [hvalid, false_and, if_false]
    exact hcover b

/-! ### Sector erase -/

theorem writeTransaction_sectorErase (hs : s.quiet) (hon : s.jlpAccelOn = true) (hsh : shadowOk s 0x802F#16)
    (h : sectorErase (afterShadow 0x802F#16 s) = .ok () u) :
    writeTransaction 0x802F#16 0xBEEF#16 s = .next (written 0x802F#16 u) :=
  writeTransaction_jlp hs hon hsh (by decide) h

theorem sectorErase_afterShadow : sectorErase (afterShadow 0x802F#16 s) =
    whenValid (rowOk s.params s.sgRow) (charged 0x802F#16 800 200 s) fun n =>
      .ok () (eraseSector n (charged 0x802F#16 800 200 s)) := by
  conv_rhs => rw [← params_charged (a := 0x802F#16) (least := 800) (count := 200),
    ← sgRow_charged (a := 0x802F#16) (least := 800) (count := 200)]
  rfl

theorem flashByte_eraseSector (k : Nat) : flashByte (eraseSector n s) k =
    if eraseCover s.params n s.sgRow k = true then 0xFF#8 else flashByte s k :=
  tableGet_drop _ _ _ _

/-- The bytes of an erased sector (44_jlp_window.md R368). -/
theorem eraseCover_iff {p : Params} (hmode : p.jlpMode = .accelFlashOn) (hlo : p.flashStartRow = some lo)
    (hhi : p.flashEndRow = some hi) (row : Word) {r j : Nat} (hj : j < 2 * n) :
    eraseCover p n row (r * (2 * n) + j) = true ↔
      row.toNat - row.toNat % 8 ≤ r ∧ r ≤ row.toNat - row.toNat % 8 + 7 ∧ lo ≤ r ∧ r < hi := by
  have hdiv : (r * (2 * n) + j) / (2 * n) = r := by
    rw [Nat.mul_comm, Nat.mul_add_div (by omega), Nat.div_eq_of_lt hj, Nat.add_zero]
  have hrow := row.isLt
  have hn : 0 < n := by omega
  simp only [eraseCover, hdiv, hn, rowOk_supplied hmode hlo hhi, Bool.and_eq_true, decide_eq_true_eq, beq_iff_eq,
    Except.toOption, Option.some.injEq, BitVec.toNat_ofNat, true_and]
  omega

/-- Settles O46: the sector is dropped where the check holds, and only the latency is charged elsewhere. -/
theorem sectorEraseSetsSector : Obligations.SectorEraseSetsSector := by
  intro s n lo hi hs hon hsh hmode hn hlo hhi valid first
  have hcheck : rowOk s.params s.sgRow = .ok (decide valid) := rowOk_supplied hmode hlo hhi s.sgRow
  have hwords : (charged 0x802F#16 800 200 s).params.flashRowWords = some n := by rw [params_charged, hn]
  by_cases hvalid : valid
  case pos =>
    have hcmd : sectorErase (afterShadow 0x802F#16 s) = .ok () (eraseSector n (charged 0x802F#16 800 200 s)) := by
      rw [sectorErase_afterShadow, hcheck, decide_eq_true hvalid, whenValid_true hwords]
    have hsleep := drawSleep_range 800 (count := 200) (by decide) (afterShadow 0x802F#16 s)
    refine ⟨_, writeTransaction_sectorErase hs hon hsh hcmd, hsleep.1, hsleep.2, fun r j hj => ?_,
      coverReset_written (afterShadow_icache _ s), rfl⟩
    refine (flashByte_eraseSector _).trans ?_
    rw [params_charged, sgRow_charged, flashByte_charged]
    simp only [eraseCover_iff hmode hlo hhi _ hj, hvalid, true_and]
    rfl
  case neg =>
    have hcmd : sectorErase (afterShadow 0x802F#16 s) = .ok () (charged 0x802F#16 800 200 s) := by
      rw [sectorErase_afterShadow, hcheck, decide_eq_false hvalid, whenValid_false]
    obtain ⟨hleast, hmost, hcover, hframe⟩ := written_charged 0x802F#16 800 (count := 200) (by decide) s
    refine ⟨_, writeTransaction_sectorErase hs hon hsh hcmd, hleast, hmost, fun r j _ => ?_, hcover, hframe⟩
    rw [if_neg fun h => hvalid h.1]
    exact congrArg (tableGet flashDefault · _) (afterShadow_flash _ s)

end Sys2Proof.Machine
end

section
/-! Commands that move nothing or are refused, and the round trip of the save game (00_scope.md R9, 44_jlp_window.md R365
to R370, 60_exceptions.md R406, 95_test_vectors.md V-L1-8). -/

namespace Sys2Proof.Machine

variable {s t u : State} {a v : Word} {p : Params} {c : Check} {n lo hi : Nat}

/-! ### Checks with missing parameters -/

/-- The row fails a supplied bound. -/
def BadRow (p : Params) (row : Nat) : Prop :=
  (∃ lo, p.flashStartRow = some lo ∧ row < lo) ∨ ∃ hi, p.flashEndRow = some hi ∧ hi ≤ row

/-- The RAM address fails its range, or a supplied row size. -/
def BadAddress (p : Params) (addr : Nat) : Prop :=
  addr < 0x8040 ∨ 0x9F80 < addr ∨ ∃ n, p.flashRowWords = some n ∧ 0x9F7F < addr + n - 1

/-- A check that asks for the first missing parameter of the geometry, in the order of the chain. -/
def AsksInOrder (p : Params) (c : Check) : Prop :=
  (p.flashStartRow = none → c = .error .flashStartRow) ∧
  (p.flashStartRow ≠ none → p.flashEndRow = none → c = .error .flashEndRow) ∧
  (p.flashStartRow ≠ none → p.flashEndRow ≠ none → p.flashRowWords = none →
    c = .error .flashRowWords ∨ c = .ok true)

theorem rowOk_without_flash (h : p.jlpMode ≠ .accelFlashOn) (row : Word) : rowOk p row = .ok false := by
  rw [rowOk, flashBound_off h, flashBound_off h, checkParam_some, checkParam_some, both_ok]
  simp

theorem rowOk_of_badRow {row : Word} (h : BadRow p row.toNat) : rowOk p row = .ok false := by
  by_cases hmode : p.jlpMode = .accelFlashOn
  case neg => exact rowOk_without_flash hmode row
  case pos =>
    rw [rowOk, flashBound_on hmode, flashBound_on hmode]
    obtain ⟨lo, hlo, hrow⟩ | ⟨hi, hhi, hrow⟩ := h
    · rw [hlo, checkParam_some, decide_eq_false (by omega), both_false_left]
    · rw [hhi, checkParam_some, decide_eq_false (by omega), both_false_right]

theorem start_check (hrow : ¬BadRow p n) (h : p.flashStartRow = some lo) :
    checkParam .flashStartRow (some lo) (· ≤ n) = .ok true := by
  have : ¬n < lo := fun hlt => hrow (.inl ⟨lo, h, hlt⟩)
  rw [checkParam_some, decide_eq_true (by omega)]

theorem end_check (hrow : ¬BadRow p n) (h : p.flashEndRow = some hi) :
    checkParam .flashEndRow (some hi) (n < ·) = .ok true := by
  have : ¬hi ≤ n := fun hle => hrow (.inr ⟨hi, h, hle⟩)
  rw [checkParam_some, decide_eq_true (by omega)]

/-- The row check of bounds that do not fail: it asks for the start row, then for the end row, or holds. -/
theorem rowOk_cases {row : Word} (hmode : p.jlpMode = .accelFlashOn) (hrow : ¬BadRow p row.toNat) :
    p.flashStartRow = none ∧ rowOk p row = .error .flashStartRow ∨
    (p.flashStartRow ≠ none ∧ p.flashEndRow = none ∧ rowOk p row = .error .flashEndRow) ∨
    p.flashStartRow ≠ none ∧ p.flashEndRow ≠ none ∧ rowOk p row = .ok true := by
  rw [rowOk, flashBound_on hmode, flashBound_on hmode]
  cases hstart : p.flashStartRow with
  | none =>
    refine .inl ⟨rfl, ?_⟩
    cases hend : p.flashEndRow with
    | none => rfl
    | some hi => rw [end_check hrow hend]; rfl
  | some lo =>
    rw [start_check hrow hstart, both_true_left]
    cases hend : p.flashEndRow with
    | none => exact .inr (.inl ⟨nofun, rfl, rfl⟩)
    | some hi => exact .inr (.inr ⟨nofun, nofun, end_check hrow hend⟩)

theorem addrOk_of_badAddress {addr : Word} (h : BadAddress p addr.toNat) : addrOk p addr = .ok false := by
  rw [addrOk, ← Bool.decide_and]
  obtain hlow | hhigh | ⟨n, hn, hlong⟩ := h
  · rw [decide_eq_false (by omega), both_false_left]
  · rw [decide_eq_false (by omega), both_false_left]
  · rw [hn, checkParam_some, decide_eq_false (p := _ ≤ 0x9F7F) (by omega), both_false_right]

theorem addrOk_cases {addr : Word} (h : ¬BadAddress p addr.toNat) :
    p.flashRowWords = none ∧ addrOk p addr = .error .flashRowWords ∨
      p.flashRowWords ≠ none ∧ addrOk p addr = .ok true := by
  have hrange : 0x8040 ≤ addr.toNat ∧ addr.toNat ≤ 0x9F80 :=
    ⟨Nat.not_lt.mp fun hlt => h (.inl hlt), Nat.not_lt.mp fun hlt => h (.inr (.inl hlt))⟩
  rw [addrOk, ← Bool.decide_and, decide_eq_true hrange, both_true_left]
  cases hn : p.flashRowWords with
  | none => exact .inl ⟨rfl, rfl⟩
  | some n =>
    have : ¬0x9F7F < addr.toNat + n - 1 := fun hlt => h (.inr (.inr ⟨n, hn, hlt⟩))
    exact .inr ⟨nofun, by rw [checkParam_some, decide_eq_true (by omega)]⟩

theorem rowOk_asks {row : Word} (hmode : p.jlpMode = .accelFlashOn) (hrow : ¬BadRow p row.toNat) :
    AsksInOrder p (rowOk p row) := by
  obtain ⟨hstart, hc⟩ | ⟨hstart, hend, hc⟩ | ⟨hstart, hend, hc⟩ := rowOk_cases hmode hrow
  · exact ⟨fun _ => hc, fun h => absurd hstart h, fun h => absurd hstart h⟩
  · exact ⟨fun h => absurd h hstart, fun _ _ => hc, fun _ h => absurd hend h⟩
  · exact ⟨fun h => absurd h hstart, fun _ h => absurd h hend, fun _ _ _ => .inr hc⟩

theorem copyValid_asks (hmode : s.params.jlpMode = .accelFlashOn) (hrow : ¬BadRow s.params s.sgRow.toNat)
    (haddr : ¬BadAddress s.params s.sgAddr.toNat) : AsksInOrder s.params (copyValid s) := by
  have hnot : addrOk s.params s.sgAddr ≠ .ok false := by
    obtain ⟨-, h⟩ | ⟨-, h⟩ := addrOk_cases haddr
    all_goals rw [h]; nofun
  rw [copyValid]
  obtain ⟨hstart, hc⟩ | ⟨hstart, hend, hc⟩ | ⟨hstart, hend, hc⟩ := rowOk_cases hmode hrow
  · rw [hc, both_error_left hnot]
    exact ⟨fun _ => rfl, fun h => absurd hstart h, fun h => absurd hstart h⟩
  · rw [hc, both_error_left hnot]
    exact ⟨fun h => absurd h hstart, fun _ _ => rfl, fun _ h => absurd hend h⟩
  · rw [hc, both_true_left]
    refine ⟨fun h => absurd h hstart, fun _ h => absurd h hend, fun _ _ hwords => ?_⟩
    obtain ⟨-, h⟩ | ⟨hsome, -⟩ := addrOk_cases haddr
    · exact .inl h
    · exact absurd hwords hsome

/-! ### Commands that move nothing or are refused -/

/-- A command that runs its effect where its check holds: it charges its latency alone where the check fails, and is
refused by name where the check or the row size is open (60_exceptions.md R406). -/
theorem command_of_check {least count : Nat} {k : Nat → Res Unit} {bad : Prop} (hcount : 0 < count) (hs : s.quiet)
    (hon : s.jlpAccelOn = true) (ha : 0x8000 ≤ a.toNat ∧ a.toNat ≤ 0x803F) (hsh : shadowOk s a)
    (hcmd : jlpWrite a v (afterShadow a s) = whenValid c (charged a least count s) k) (hbad : bad → c = .ok false)
    (hasks : ¬bad → AsksInOrder s.params c) :
    (bad → ∃ t, writeTransaction a v s = .next t ∧ least ≤ t.jlpSleep ∧ t.jlpSleep ≤ least + count - 1 ∧
      coverReset a s t ∧ t = { afterShadow a s with
        jlpSleep := t.jlpSleep, draws := t.draws, icache := t.icache, response := .done }) ∧
    (¬bad →
      (s.params.flashStartRow = none → writeTransaction a v s = .refused (.parameterOpen .flashStartRow)) ∧
      (s.params.flashStartRow ≠ none → s.params.flashEndRow = none →
        writeTransaction a v s = .refused (.parameterOpen .flashEndRow)) ∧
      (s.params.flashStartRow ≠ none → s.params.flashEndRow ≠ none → s.params.flashRowWords = none →
        writeTransaction a v s = .refused (.parameterOpen .flashRowWords))) := by
  have hrefuse {q : OpenParam} (h : whenValid c (charged a least count s) k = .refuse (.parameterOpen q)) :
      writeTransaction a v s = .refused (.parameterOpen q) :=
    writeTransaction_jlp_refuse hs hon hsh (.inl ha) (hcmd.trans h)
  refine ⟨fun h => ?_, fun h => ?_⟩
  · rw [hbad h] at hcmd
    exact ⟨_, writeTransaction_jlp hs hon hsh (.inl ha) (hcmd.trans (whenValid_false _ k)),
      written_charged a least hcount s⟩
  · obtain ⟨hstart, hend, hwords⟩ := hasks h
    refine ⟨fun h => hrefuse ?_, fun h h' => hrefuse ?_, fun h h' h'' => hrefuse ?_⟩
    · rw [hstart h, whenValid_error]
    · rw [hend h h', whenValid_error]
    · obtain hc | hc := hwords h h' h''
      · rw [hc, whenValid_error]
      · rw [hc, whenValid_true_none (by rw [params_charged, h''])]

theorem copyValid_of_bad
    (h : s.params.jlpMode ≠ .accelFlashOn ∨ BadRow s.params s.sgRow.toNat ∨ BadAddress s.params s.sgAddr.toNat) :
    copyValid s = .ok false := by
  rw [copyValid]
  obtain hmode | hrow | haddr := h
  · rw [rowOk_without_flash hmode, both_false_left]
  · rw [rowOk_of_badRow hrow, both_false_left]
  · rw [addrOk_of_badAddress haddr, both_false_right]

/-- Settles O47: each command by `command_of_check`, with the check of a copy or of a row. -/
theorem commandsWithoutFlashMoveNothing : Obligations.CommandsWithoutFlashMoveNothing := by
  intro s hs hon q hq hsh row addr badRow badAddress bad
  have hbadCopy (h : s.params.jlpMode ≠ .accelFlashOn ∨ badRow ∨ true = true ∧ badAddress) : copyValid s = .ok false :=
    copyValid_of_bad (h.imp_right fun h => h.imp_right And.right)
  have hasksCopy (h : ¬(s.params.jlpMode ≠ .accelFlashOn ∨ badRow ∨ true = true ∧ badAddress)) :
      AsksInOrder s.params (copyValid s) :=
    copyValid_asks (not_not.mp fun hm => h (.inl hm)) (fun hr => h (.inr (.inl hr))) fun ha => h (.inr (.inr ⟨rfl, ha⟩))
  simp only [List.mem_cons, List.not_mem_nil, or_false] at hq
  obtain rfl | rfl | rfl := hq
  · exact command_of_check (a := 0x802D#16) (v := 0xC0DE#16) (least := 400) (count := 200) (by decide) hs hon (by decide) hsh
      ramToFlash_afterShadow hbadCopy hasksCopy
  · exact command_of_check (a := 0x802E#16) (v := 0xDEC0#16) (least := 10) (count := 20) (by decide) hs hon (by decide) hsh
      flashToRam_afterShadow hbadCopy hasksCopy
  · refine command_of_check (a := 0x802F#16) (v := 0xBEEF#16) (least := 800) (count := 200) (by decide) hs hon (by decide) hsh
      sectorErase_afterShadow (fun h => ?_) fun h => ?_
    · obtain hmode | hrow | ⟨hfalse, -⟩ := h
      · exact rowOk_without_flash hmode _
      · exact rowOk_of_badRow hrow
      · cases hfalse
    · exact rowOk_asks (not_not.mp fun hm => h (.inl hm)) fun hr => h (.inr (.inl hr))

/-! ### The round trip -/

/-- A write that completed without a fault read its shadow inside the store. -/
theorem shadowOk_of_next (hs : s.quiet) (h : writeTransaction a v s = .next t) (ht : t.fault = none) :
    shadowOk s a := by
  intro hperm hne
  by_contra hplace
  have hraise := (pvShadowFaultsFirst s a v hs).1 hne hperm (Nat.not_lt.mp hplace)
  cases h.symm.trans hraise
  cases ht

/-- A write that completed without a fault is its branch, then its invalidation. -/
theorem branch_of_next (hs : s.quiet) (h : writeTransaction a v s = .next t) (ht : t.fault = none) :
    ∃ u, writeBranch a v (afterShadow a s) = .ok () u ∧ t = written a u := by
  obtain ⟨_, w, hw, rfl⟩ := busWrite_ok_of_next h ht
  rw [busWrite_quiet hs.2 (shadowOk_of_next hs h ht)] at hw
  obtain ⟨_, u, hu, hend⟩ := andThen_eq_ok.mp hw
  cases hend
  exact ⟨u, hu, rfl⟩

theorem flashWord_congr {rw row i : Nat} (h : s.flash = t.flash) : flashWord rw row i s = flashWord rw row i t := by
  rw [flashWord, flashWord, flashByte, flashByte, flashByte, flashByte, h]

/-- Settles O49: the first command leaves the words in the flash, the second puts them back. -/
theorem saveGameRoundTripRestoresWords : Obligations.SaveGameRoundTripRestoresWords := by
  intro s t u v n hs hon hmode hn hvalid herased hout ht huq huon hflash hparams haddr hrow hmap hapart hin hv j hj
  have hplace (i : Nat) : phys u (u.sgAddr + BitVec.ofNat 16 i) = phys s (s.sgAddr + BitVec.ofNat 16 i) := by
    rw [phys, phys, activeMap, activeMap, hmap, haddr]
  have hvalid' : copyValid u = .ok true := by rw [copyValid, hparams, haddr, hrow]; exact hvalid
  have hsaved : flashWord n s.sgRow.toNat j t = ramWord s (phys s (s.sgAddr + BitVec.ofNat 16 j)) := by
    obtain ⟨w, hw, rfl⟩ := branch_of_next hs hout ht
    rw [writeBranch_jlp ((afterShadow_jlpAccelOn _ s).trans hon) (by decide)] at hw
    have hcopy := ramToFlash_afterShadow.symm.trans hw
    rw [hvalid, whenValid_true (by rw [params_charged, hn]), if_pos (rowErased_charged.mpr herased)] at hcopy
    have hword := flashWord_copyToFlash hcopy (i := j) (by omega) (by omega)
    rw [stagedPlace_charged, ramWord_charged] at hword
    exact hword
  obtain ⟨w, hw, rfl⟩ := branch_of_next huq hin hv
  rw [writeBranch_jlp ((afterShadow_jlpAccelOn _ u).trans huon) (by decide)] at hw
  have hcmd := flashToRam_afterShadow.symm.trans hw
  rw [hvalid', whenValid_true (by rw [params_charged, hparams, hn])] at hcmd
  obtain ⟨_, x, hcopy, hend⟩ := andThen_eq_ok.mp hcmd
  cases hend
  have hcharged : (charged 0x802E#16 10 20 u).flash = u.flash := afterShadow_flash _ u
  have hword := (ramWord_copyToRam hcopy (i := j) (fun a ha b hb hab => by
    rw [stagedPlace_charged, stagedPlace_charged, hplace, hplace] at hab
    exact hapart a (by omega) b (by omega) hab) (by omega) (by omega)).1
  rw [stagedPlace_charged, hplace, hrow, flashWord_congr (hcharged.trans hflash), hsaved] at hword
  exact hword

end Sys2Proof.Machine
end

section
/-! The CRC engine's refusals and its linearity (40_crc.md R140, R145, R146). A shift is linear over XOR, and n shifts of a
value whose n leaving bits are 0 are the plain shift by n: the value splits into the part that leaves and the part that
stays. -/

namespace Sys2Proof.Machine

variable {w n : Nat} {p c x y : BitVec w}

/-! ### Refusals -/

theorem runCrc_of_unadmitted {s : State} {w p : Nat} (hs : s.fault = none) (h : ¬crcInstanceOk w p = true) (c : Nat)
    (f : BitVec w → BitVec w → BitVec w) : runCrc w p c f s = .refused (.crcUnadmitted w p) := by
  rw [runCrc, running_of_ok hs, if_neg h]

/-- Settles O51: no CRC operation runs a width or a polynomial that is not admitted. -/
theorem unadmittedCrcIsRefused : Obligations.UnadmittedCrcIsRefused := by
  intro s w p c b bs dir hs h
  have hno : ¬crcInstanceOk w p = true := fun hok => h (crcInstanceOk_iff.mp hok)
  rw [exec_crcUpdateByteRight, exec_crcUpdateByteLeft, exec_crcUpdateBlock]
  exact ⟨runCrc_of_unadmitted hs hno c _, runCrc_of_unadmitted hs hno c _, runCrc_of_unadmitted hs hno c _⟩

/-! ### Linearity -/

theorem crcShiftRight_eq_xor (p c : BitVec w) :
    crcShiftRight p c = (c >>> 1) ^^^ (if c.getLsbD 0 then p else 0#w) := by
  rw [crcShiftRight]
  split
  · rfl
  · rw [BitVec.xor_zero]

theorem crcShiftLeft_eq_xor (p c : BitVec w) :
    crcShiftLeft p c = (c <<< 1) ^^^ (if c.getMsbD 0 then p else 0#w) := by
  rw [crcShiftLeft]
  split
  · rfl
  · rw [BitVec.xor_zero]

/-- A conditional polynomial is linear in its condition. -/
theorem ite_xor_ite (p : BitVec w) (a b : Bool) :
    (if a then p else 0#w) ^^^ (if b then p else 0#w) = if a ^^ b then p else 0#w := by
  cases a <;> cases b <;> simp

theorem crcShiftRight_xor (p x y : BitVec w) :
    crcShiftRight p (x ^^^ y) = crcShiftRight p x ^^^ crcShiftRight p y := by
  simp only [crcShiftRight_eq_xor, BitVec.ushiftRight_xor_distrib, BitVec.getLsbD_xor, ← ite_xor_ite]
  ac_rfl

theorem crcShiftLeft_xor (p x y : BitVec w) :
    crcShiftLeft p (x ^^^ y) = crcShiftLeft p x ^^^ crcShiftLeft p y := by
  simp only [crcShiftLeft_eq_xor, BitVec.shiftLeft_xor_distrib, BitVec.getMsbD_xor, ← ite_xor_ite]
  ac_rfl

theorem iterate_xor {f : BitVec w → BitVec w} (hf : ∀ x y, f (x ^^^ y) = f x ^^^ f y) (n : Nat) (x y : BitVec w) :
    f^[n] (x ^^^ y) = f^[n] x ^^^ f^[n] y :=
  Function.Semiconj₂.iterate (op := (· ^^^ ·)) hf n x y

/-- Shifts whose leaving bits are 0 are the plain shift. -/
theorem crcShiftRight_iterate (p : BitVec w) (hx : ∀ i < n, x.getLsbD i = false) :
    (crcShiftRight p)^[n] x = x >>> n := by
  induction n generalizing x with
  | zero => exact (BitVec.ushiftRight_zero x).symm
  | succ n ih =>
    have hfirst : crcShiftRight p x = x >>> 1 := by rw [crcShiftRight, hx 0 (by omega), if_neg (by decide)]
    have hrest : ∀ i < n, (x >>> 1).getLsbD i = false := fun i hi => by
      rw [BitVec.getLsbD_ushiftRight]
      exact hx (1 + i) (by omega)
    rw [Function.iterate_succ_apply, hfirst, ih hrest, ← BitVec.shiftRight_add, Nat.add_comm]

theorem crcShiftLeft_iterate (p : BitVec w) (hx : ∀ i < n, x.getMsbD i = false) :
    (crcShiftLeft p)^[n] x = x <<< n := by
  induction n generalizing x with
  | zero => exact (BitVec.shiftLeft_zero x).symm
  | succ n ih =>
    have hfirst : crcShiftLeft p x = x <<< 1 := by rw [crcShiftLeft, hx 0 (by omega), if_neg (by decide)]
    have hrest : ∀ i < n, (x <<< 1).getMsbD i = false := fun i hi => by
      rw [BitVec.getMsbD_shiftLeft]
      exact hx (i + 1) (by omega)
    rw [Function.iterate_succ_apply, hfirst, ih hrest, ← BitVec.shiftLeft_add, Nat.add_comm]

/-! ### The table-driven forms -/

/-- The part of a running value that stays after eight right shifts: all but its low byte. -/
theorem crcShiftRight_iterate_high (p c : BitVec w) :
    (crcShiftRight p)^[8] (c ^^^ (c.setWidth 8).setWidth w) = c >>> 8 := by
  rw [crcShiftRight_iterate p fun i hi => ?low]
  case low =>
    rw [BitVec.getLsbD_xor, BitVec.getLsbD_setWidth, BitVec.getLsbD_setWidth, decide_eq_true hi]
    by_cases hw : i < w
    · rw [decide_eq_true hw, Bool.true_and, Bool.true_and, Bool.xor_self]
    · rw [BitVec.getLsbD_of_ge c i (by omega), Bool.and_false, Bool.and_false, Bool.xor_self]
  apply BitVec.eq_of_getLsbD_eq
  intro i hi
  rw [BitVec.getLsbD_ushiftRight, BitVec.getLsbD_ushiftRight, BitVec.getLsbD_xor, BitVec.getLsbD_setWidth,
    BitVec.getLsbD_setWidth, decide_eq_false (p := 8 + i < 8) (by omega), Bool.false_and, Bool.and_false, Bool.xor_false]

/-- The part of a running value that stays after eight left shifts: all but its high byte. -/
theorem crcShiftLeft_iterate_low (hw : 8 ≤ w) (p c : BitVec w) :
    (crcShiftLeft p)^[8] (c ^^^ ((c.extractLsb' (w - 8) 8).setWidth w <<< (w - 8))) = c <<< 8 := by
  have hbit (i : Nat) (hi : i < w) : ((c.extractLsb' (w - 8) 8).setWidth w <<< (w - 8)).getLsbD i =
      (decide (w - 8 ≤ i) && c.getLsbD i) := by
    rw [BitVec.getLsbD_shiftLeft, BitVec.getLsbD_setWidth, BitVec.getLsbD_extractLsb', decide_eq_true hi,
      decide_eq_true (p := i - (w - 8) < w) (by omega), decide_eq_true (p := i - (w - 8) < 8) (by omega)]
    by_cases hlow : i < w - 8
    · simp [hlow, show ¬w - 8 ≤ i by omega]
    · simp [hlow, show w - 8 + (i - (w - 8)) = i by omega, show w - 8 ≤ i by omega]
  rw [crcShiftLeft_iterate p fun i hi => ?high]
  case high =>
    rw [BitVec.getMsbD_eq_getLsbD, BitVec.getLsbD_xor, hbit _ (by omega), decide_eq_true (p := w - 8 ≤ _) (by omega),
      Bool.true_and, Bool.xor_self, Bool.and_false]
  apply BitVec.eq_of_getLsbD_eq
  intro i hi
  rw [BitVec.getLsbD_shiftLeft, BitVec.getLsbD_shiftLeft, BitVec.getLsbD_xor, hbit _ (by omega)]
  by_cases hlow : i < 8
  · simp [hlow]
  · rw [decide_eq_false (p := w - 8 ≤ i - 8) (by omega), Bool.false_and, Bool.xor_false]

/-- Settles O52: the byte that leaves is looked up, the rest is shifted. -/
theorem tableDrivenCrcIsBitSerial : Obligations.TableDrivenCrcIsBitSerial := by
  intro w p c b h8 _
  refine ⟨?right, ?left⟩
  case right =>
    have hsplit : c ^^^ b.setWidth w =
        (c ^^^ (c.setWidth 8).setWidth w) ^^^ (0#w ^^^ (c.setWidth 8 ^^^ b).setWidth w) := by
      rw [BitVec.setWidth_xor, BitVec.zero_xor, BitVec.xor_assoc, ← BitVec.xor_assoc (BitVec.setWidth w _),
        BitVec.xor_self, BitVec.zero_xor]
    rw [crcByteRight_eq_iterate, crcByteRight_eq_iterate, hsplit, iterate_xor (crcShiftRight_xor p),
      crcShiftRight_iterate_high]
  case left =>
    have hsplit : c ^^^ (b.setWidth w <<< (w - 8)) =
        (c ^^^ ((c.extractLsb' (w - 8) 8).setWidth w <<< (w - 8))) ^^^
          (0#w ^^^ ((c.extractLsb' (w - 8) 8 ^^^ b).setWidth w <<< (w - 8))) := by
      rw [BitVec.setWidth_xor, BitVec.shiftLeft_xor_distrib, BitVec.zero_xor, BitVec.xor_assoc,
        ← BitVec.xor_assoc (BitVec.setWidth w _ <<< _), BitVec.xor_self, BitVec.zero_xor]
    rw [crcByteLeft_eq_iterate, crcByteLeft_eq_iterate, hsplit, iterate_xor (crcShiftLeft_xor p),
      crcShiftLeft_iterate_low h8]

/-! ### The word fold -/

/-- A word is its low byte, and its high byte shifted up. -/
theorem word_eq_xor_bytes (v : Word) :
    v = (v.extractLsb' 0 8).setWidth 16 ^^^ ((v.extractLsb' 8 8).setWidth 16 <<< 8) := by
  apply BitVec.eq_of_getLsbD_eq
  intro i hi
  rw [BitVec.getLsbD_xor, BitVec.getLsbD_setWidth, BitVec.getLsbD_shiftLeft, BitVec.getLsbD_setWidth,
    BitVec.getLsbD_extractLsb', BitVec.getLsbD_extractLsb', decide_eq_true hi]
  by_cases hlow : i < 8
  · simp [hlow]
  · simp [hlow, show 8 + (i - 8) = i by omega, show i - 8 < 16 by omega, show i - 8 < 8 by omega]

theorem crc16Fold_eq_iterate (p c v : Word) :
    crcByteRight p (crcByteRight p c (v.extractLsb' 0 8)) (v.extractLsb' 8 8) = (crcShiftRight p)^[16] (c ^^^ v) := by
  have hhigh : (crcShiftRight p)^[8] ((v.extractLsb' 8 8).setWidth 16 <<< 8) = (v.extractLsb' 8 8).setWidth 16 := by
    rw [crcShiftRight_iterate p fun i hi => by rw [BitVec.getLsbD_shiftLeft]; simp [hi]]
    apply BitVec.eq_of_getLsbD_eq
    intro i hi
    rw [BitVec.getLsbD_ushiftRight, BitVec.getLsbD_shiftLeft, BitVec.getLsbD_setWidth, BitVec.getLsbD_setWidth]
    simp only [BitVec.getLsbD_extractLsb']
    by_cases hbyte : i < 8
    · simp [hbyte, hi, show 8 + i < 16 by omega]
    · simp [hbyte]
  have htwice (x : Word) : (crcShiftRight p)^[16] x = (crcShiftRight p)^[8] ((crcShiftRight p)^[8] x) :=
    Function.iterate_add_apply _ 8 8 x
  rw [htwice, crcByteRight_eq_iterate, crcByteRight_eq_iterate]
  conv_rhs => rw [word_eq_xor_bytes v, ← BitVec.xor_assoc, iterate_xor (crcShiftRight_xor p) 8 (_ ^^^ _), hhigh]

theorem exec_crc16Fold {s : State} (hs : s.fault = none) (c v : Word) :
    exec (.crc16Fold c v) s = .next { s with response := .crc ((crcShiftRight 0xAD52#16)^[16] (c ^^^ v)).toNat } := by
  rw [← crc16Fold_eq_iterate]
  exact running_of_ok hs _

/-- Settles O53: sixteen shifts are twice eight, and the high byte comes down through the first eight. -/
theorem wordFoldIsSixteenShifts : Obligations.WordFoldIsSixteenShifts := by
  intro s c v hs folded
  refine ⟨exec_crc16Fold hs c v, crc16Fold_eq_iterate 0xAD52#16 c v, ?_⟩
  have hzero : (crcShiftRight 0xAD52#16)^[16] (c ^^^ c) = 0#16 := by
    rw [BitVec.xor_self, crcShiftRight_iterate _ fun i _ => BitVec.getLsbD_zero]
    exact BitVec.zero_ushiftRight
  rw [exec_crc16Fold hs, hzero]
  rfl

end Sys2Proof.Machine
end

section
/-! Reset, tick and invalidate (60_exceptions.md R410, 41_decode.md R174, 70_reset_and_hazards.md R430). -/

namespace Sys2Proof.Machine

variable {s t u : State}

/-! ### Reset -/

/-- The state after the copies of the reset tables, before the accelerator's mode is looked at. -/
def withResetTables (s : State) : State :=
  { s with
    memMapAct := s.memMapRst
    memPermAct := s.memPermRst
    bsel := Vector.replicate (2 ^ 4) 0#4
    jlpAccelOn := false }

/-- The state after the mode's remap (70_reset_and_hazards.md R430). -/
def withResetMode (s : State) : State :=
  if autoEnabled s.params then jlpTurnOn (withResetTables s) else withResetTables s

theorem resetBlock_eq (s : State) : resetBlock s = invalidateRange 0x0000#16 0xFFFF#16
    { withResetMode s with
      ltoIsaEnabled := (withResetMode s).params.jlpMode != .disabled || ltoMapper (withResetMode s) } := rfl

theorem withResetMode_frame (s : State) : withResetMode s = { s with
    memMapAct := (withResetMode s).memMapAct, memPermAct := (withResetMode s).memPermAct
    bsel := Vector.replicate (2 ^ 4) 0#4, jlpAccelOn := autoEnabled s.params, icache := (withResetMode s).icache } := by
  unfold withResetMode
  cases autoEnabled s.params with
  | true => exact jlpTurnOn_frame (withResetTables s)
  | false => rfl

theorem vecGet_withResetMode (s : State) (p : BitVec 8) :
    (vecGet (withResetMode s).memMapAct p, vecGet (withResetMode s).memPermAct p) =
      if autoEnabled s.params = true ∧ 0x80 ≤ p.toNat ∧ p.toNat ≤ 0x9F then (p.setWidth 16, 0b0011#4)
      else (vecGet s.memMapRst p, vecGet s.memPermRst p) := by
  unfold withResetMode
  cases autoEnabled s.params with
  | true => exact (vecGet_jlpTurnOn (s := withResetTables s) rfl p).trans (if_congr (by simp) rfl rfl)
  | false => simp [withResetTables]

theorem autoEnabled_iff {p : Params} : autoEnabled p = true ↔ p.jlpMode = .accelOn ∨ p.jlpMode = .accelFlashOn := by
  simp only [autoEnabled, Bool.or_eq_true, beq_iff_eq]

/-- An invalidation of the whole space resets every record (41_decode.md R174, log 11). -/
theorem rangeCover_all (k : Nat) : rangeCover 0x0000#16 0xFFFF#16 k = true := by
  rw [rangeCover, show ((0x0000#16 : Word) ≤ 0xFFFF#16 && 0xFFFE#16 ≤ 0xFFFF#16 - 0x0000#16) = true from by decide,
    Bool.true_or]

/-- Settles O54: the tables copied, the mode's remap, the whole cache invalidated. -/
theorem resetInstallsResetTables : Obligations.ResetInstallsResetTables := by
  intro s hs on
  have hframe := withResetMode_frame s
  refine ⟨{ resetBlock s with response := .done }, running_of_ok hs _, fun p => ?map, fun c => ?bsel, ?on, ?lto,
    fun b => ?cache, ?frame⟩
  case map =>
    refine (vecGet_withResetMode s p).trans (if_congr ?_ rfl rfl)
    simp only [autoEnabled, Bool.and_eq_true, decide_eq_true_eq, BitVec.le_def, BitVec.reduceToNat, and_assoc]
  case bsel =>
    have hbsel : (withResetMode s).bsel = Vector.replicate (2 ^ 4) 0#4 := by rw [hframe]
    exact (congrArg (vecGet · c) hbsel).trans (vecGet_replicate _ _)
  case on =>
    have hon : (withResetMode s).jlpAccelOn = autoEnabled s.params := by rw [hframe]
    exact (iff_of_eq (congrArg (· = true) hon)).trans autoEnabled_iff
  case lto =>
    have hmode : (withResetMode s).params = s.params := by rw [hframe]
    have hflags : (withResetMode s).featureFlags = s.featureFlags := by rw [hframe]
    change ((withResetMode s).params.jlpMode != .disabled || ltoMapper (withResetMode s)) = true ↔ _
    rw [Bool.or_eq_true, bne_iff_ne, ltoMapper, hmode, hflags]
  case cache =>
    refine (cached_invalidateRange _ _ b _).trans ?_
    rw [if_pos (rangeCover_all _)]
  case frame =>
    rw [resetBlock_eq, hframe]
    rfl

/-! ### Tick and invalidate -/

theorem execTick_some {d : Nat} (hs : s.fault = none) (hd : s.params.tickDecrement = some d) (n : Nat) :
    execTick n s = .next { s with jlpSleep := s.jlpSleep - n * d, response := .done } := by
  rw [execTick, running_of_ok hs, hd]

theorem execTick_none (hs : s.fault = none) (hd : s.params.tickDecrement = none) (n : Nat) :
    execTick n s = .refused (.parameterOpen .tickDecrement) := by
  rw [execTick, running_of_ok hs, hd]

/-- Settles O55: the counter less its decrements, and the range of `rangeCover`. -/
theorem tickAndInvalidate : Obligations.TickAndInvalidate := by
  intro s n lo hi hs
  refine ⟨fun d hd => execTick_some hs hd n, fun hd => execTick_none hs hd n, _, running_of_ok hs _, fun b => ?_, rfl⟩
  refine (cached_invalidateRange lo hi b s).trans ?_
  simp only [rangeCover, Bool.or_eq_true, Bool.and_eq_true, decide_eq_true_eq, BitVec.ofNat_toNat, BitVec.setWidth_eq]

/-- Settles O56: every table of the reset state is empty or 0. -/
theorem resetStateSatisfiesInvariant : Obligations.ResetStateSatisfiesInvariant where
  tables := ⟨wf_nil _ _, wf_nil _ _, wf_nil _ _, .nil, fun _ he => nomatch he⟩
  records := fun _ he => nomatch he
  sleep := Nat.zero_le _
  accel := fun h => Bool.noConfusion h
  fetch := rfl

end Sys2Proof.Machine
end

section
/-! Every step keeps the invariant (10_state.md R22, R23, R39, 44_jlp_window.md R350). -/

namespace Sys2Proof.Machine

variable {s t u : State} {a v lo hi : Word} {α : Type}

/-! ### The parts of the invariant -/

/-- The part of the state the invariant speaks of. -/
def invPart (s : State) : Memory × Table Bool × Table (Option DecodedRecord) × Table Byte × Nat × Bool × Params × Fetch :=
  (s.ram, s.initialized, s.icache, s.flash, s.jlpSleep, s.jlpAccelOn, s.params, s.fetch)

/-- A change of any other part keeps the invariant. -/
theorem inv_of_part_eq (h : s.Inv) (he : invPart t = invPart s) : t.Inv := by
  simp only [invPart, Prod.mk.injEq] at he
  obtain ⟨hram, hinit, hicache, hflash, hsleep, haccel, hparams, hfetch⟩ := he
  refine ⟨⟨?_, ?_, ?_, ?_⟩, ?_, ?_, ?_, ?_⟩
  · rw [hram]; exact h.tables.ram
  · rw [hinit]; exact h.tables.initialized
  · rw [hicache]; exact h.tables.icache
  · rw [hflash]; exact h.tables.flash
  · rw [hicache]; exact h.records
  · rw [hsleep]; exact h.sleep
  · rw [haccel, hparams]; exact h.accel
  · rw [hfetch]; exact h.fetch

theorem inv_sleep (h : s.Inv) {n : Nat} (hn : n ≤ 999) : ({ s with jlpSleep := n } : State).Inv :=
  ⟨⟨h.tables.ram, h.tables.initialized, h.tables.icache, h.tables.flash⟩, h.records, hn, h.accel, h.fetch⟩

theorem inv_accelOn (h : s.Inv) (hmode : s.params.jlpMode ≠ .disabled) : ({ s with jlpAccelOn := true } : State).Inv :=
  ⟨⟨h.tables.ram, h.tables.initialized, h.tables.icache, h.tables.flash⟩, h.records, h.sleep, fun _ => hmode, h.fetch⟩

theorem inv_accelOff (h : s.Inv) : ({ s with jlpAccelOn := false } : State).Inv :=
  ⟨⟨h.tables.ram, h.tables.initialized, h.tables.icache, h.tables.flash⟩, h.records, h.sleep, nofun, h.fetch⟩

/-- Dropping records keeps the invariant. -/
theorem inv_dropRecords (h : s.Inv) (p : Nat → Bool) : ({ s with icache := tableDrop p s.icache } : State).Inv :=
  ⟨⟨h.tables.ram, h.tables.initialized, wf_drop p h.tables.icache, h.tables.flash⟩,
    fun e he => h.records e (mem_tableDrop.mp he).1, h.sleep, h.accel, h.fetch⟩

theorem inv_invalidateRange (h : s.Inv) : (invalidateRange lo hi s).Inv := inv_dropRecords h _

theorem inv_invalidateWritten (h : s.Inv) : (invalidateWritten a s).Inv := inv_dropRecords h _

theorem inv_ramWrite {pa : Nat} {w : Word} (h : s.Inv) (hw : ramWrite pa w s = .ok () t) : t.Inv := by
  obtain ⟨hpa, rfl⟩ := ramWrite_eq_ok.mp hw
  exact ⟨⟨wf_set _ h.tables.ram hpa, wf_set true h.tables.initialized hpa, h.tables.icache, h.tables.flash⟩, h.records,
    h.sleep, h.accel, h.fetch⟩

theorem ends_ramWrite {pa : Nat} {w : Word} (h : s.Inv) : (ramWrite pa w s).Ends State.Inv :=
  ⟨fun _ _ hw => inv_ramWrite h hw, fun r t hw => by obtain ⟨-, -, rfl⟩ := ramWrite_eq_raise.mp hw; exact h⟩

theorem sorted_drop (p : Nat → Bool) {x : Table α} (h : (x.map Prod.fst).Pairwise (· < ·)) :
    ((tableDrop p x).map Prod.fst).Pairwise (· < ·) := h.sublist (List.filter_sublist.map _)

/-- Setting an entry keeps the keys in order, with no bound on them. -/
theorem sorted_set [DecidableEq α] (d : α) {x : Table α} (k : Nat) (y : α) (h : (x.map Prod.fst).Pairwise (· < ·)) :
    ((tableSet d x k y).map Prod.fst).Pairwise (· < ·) := by
  unfold tableSet
  split
  · exact sorted_drop _ h
  · exact sorted_insert (sorted_drop _ h) fun e he => by simpa using (mem_tableDrop.mp he).2

theorem inv_flash (h : s.Inv) {f : Table Byte} (hf : (f.map Prod.fst).Pairwise (· < ·) ∧ ∀ e ∈ f, e.2 ≠ flashDefault) :
    ({ s with flash := f } : State).Inv :=
  ⟨⟨h.tables.ram, h.tables.initialized, h.tables.icache, hf⟩, h.records, h.sleep, h.accel, h.fetch⟩

theorem inv_setFlashByte (k : Nat) (b : Byte) (h : s.Inv) : (setFlashByte k b s).Inv := by
  refine inv_flash h ⟨sorted_set _ _ _ h.tables.flash.1, fun e he => ?_⟩
  obtain ⟨rfl, hb⟩ | ⟨he, -⟩ := mem_tableSet he
  · exact hb
  · exact h.tables.flash.2 e he

theorem inv_setFlashWord {rw row j : Nat} {w : Word} (h : s.Inv) : (setFlashWord rw row j w s).Inv :=
  inv_setFlashByte _ _ (inv_setFlashByte _ _ h)

/-- A coherent record cached at its own address keeps the invariant. -/
theorem inv_commitRecord {r : DecodedRecord} (h : s.Inv) (hr : recordCoherent r.addr.toNat r) :
    (commitRecord r s).Inv := by
  refine ⟨⟨h.tables.ram, h.tables.initialized, wf_set (some r) h.tables.icache r.addr.isLt, h.tables.flash⟩, fun e he q hq => ?_,
    h.sleep, h.accel, rfl⟩
  have hset : e ∈ tableSet none s.icache r.addr.toNat (some r) := he
  obtain ⟨rfl, -⟩ | ⟨he, -⟩ := mem_tableSet hset
  · cases hq
    exact hr
  · exact h.records e he q hq

/-! ### Reads and decodes -/

theorem inv_fetchFrame (h : s.Inv) (hf : FetchFrame s t) : t.Inv := by
  rw [hf.1]
  exact inv_of_part_eq (inv_sleep h (hf.2.trans h.sleep)) rfl

theorem ends_of_fetches {x : Res α} (h : s.Inv) (hx : x.Fetches s) : x.Ends State.Inv :=
  ⟨fun y t e => inv_fetchFrame h (hx.1 y t e), fun r t e => inv_fetchFrame h (hx.2.1 r t e)⟩

/-- The words after the first, as many as the length counts. -/
theorem length_fetchRest {n : Nat} {ws : List Word} (hn : n ∈ [1, 2, 3]) (h : fetchRest a n s = .ok ws t) :
    ws.length + 1 = n := by
  simp only [List.mem_cons, List.not_mem_nil, or_false] at hn
  obtain rfl | rfl | rfl := hn
  · cases h
    rfl
  · obtain ⟨w2, u, -, hk⟩ := andThen_eq_ok.mp h
    cases hk
    rfl
  · obtain ⟨w2, u, -, hk⟩ := andThen_eq_ok.mp h
    obtain ⟨w3, x, -, hk⟩ := andThen_eq_ok.mp hk
    cases hk
    rfl

/-- The words of a fetch: the first, and as many more as its length counts (41_decode.md R165). -/
theorem words_of_fetchWords {f : Fetch} (h : fetchWords a s = .ok (.words f) t) :
    ∃ w1 ws, f.words = w1 :: ws ∧ ws.length + 1 = instrLength (prevIsSdbd f.lookback) w1 := by
  obtain ⟨w1, s1, -, h⟩ := andThen_eq_ok.mp h
  split at h
  · split at h <;> cases h
  · obtain ⟨lookback, s2, -, h⟩ := andThen_eq_ok.mp h
    obtain ⟨ws, s3, hrest, h⟩ := andThen_eq_ok.mp h
    cases h
    exact ⟨w1, ws, rfl, length_fetchRest (instrLength_mem _ _) hrest⟩

/-- The record of fetched words is coherent with its own address (10_state.md R22, R23). -/
theorem recordCoherent_of_fetchWords {f : Fetch} {r : DecodedRecord} (h : fetchWords a s = .ok (.words f) t)
    (hr : recordOfWords f = some r) : recordCoherent r.addr.toNat r := by
  obtain ⟨w1, ws, hwords, hlength⟩ := words_of_fetchWords h
  obtain ⟨-, hlookback, hrecord, hsdbd⟩ := recordOfWords_fields hr
  have hlen : r.len = instrLength (prevIsSdbd f.lookback) w1 := len_recordOfWords hr hwords
  have hmem := instrLength_mem (prevIsSdbd f.lookback) w1
  simp only [List.mem_cons, List.not_mem_nil, or_false] at hmem
  refine ⟨rfl, ?_, by omega, by omega, by rw [hsdbd, hlookback]⟩
  rw [hrecord, hwords, List.length_cons, hlen, hlength]

/-- What a decode miss can end in. -/
theorem decodeMiss_cases (h : decodeMiss a s = .next t) :
    ∃ u, FetchFrame s u ∧ (t = { u with fault := t.fault, response := t.response } ∨
      ∃ f r, fetchWords a s = .ok (.words f) u ∧ recordOfWords f = some r ∧ t = commitRecord r u) := by
  have hfetch := fetches_fetchWords (s := s) a
  unfold decodeMiss at h
  split at h
  next r u hu => cases h; exact ⟨u, hfetch.2.1 r u hu, .inl rfl⟩
  next r hu => cases h
  next u hu => cases h; exact ⟨u, hfetch.1 _ u hu, .inl rfl⟩
  next f u hu =>
    split at h
    next r hr => cases h; exact ⟨u, hfetch.1 _ u hu, .inr ⟨f, r, hu, hr, rfl⟩⟩
    next hr => cases h; exact ⟨u, hfetch.1 _ u hu, .inl rfl⟩

/-- What a decode can end in: the hit, or the exits of the miss. -/
theorem execDecode_cases (h : execDecode a s = .next t) :
    ∃ u, FetchFrame s u ∧ (t = { u with fault := t.fault, response := t.response } ∨
      ∃ f r, fetchWords a s = .ok (.words f) u ∧ recordOfWords f = some r ∧ t = commitRecord r u) := by
  obtain ⟨-, h⟩ := running_eq_next.mp h
  split at h
  next r hr =>
    split at h
    · cases h
      exact ⟨s, FetchFrame_refl s, .inl rfl⟩
    · cases h
  next hr => exact decodeMiss_cases h

theorem inv_execDecode (h : s.Inv) (hd : execDecode a s = .next t) : t.Inv := by
  obtain ⟨u, hu, ht | ⟨f, r, hf, hr, rfl⟩⟩ := execDecode_cases hd
  · rw [ht]
    exact inv_of_part_eq (inv_fetchFrame h hu) rfl
  · exact inv_commitRecord (inv_fetchFrame h hu) (recordCoherent_of_fetchWords hf hr)

theorem inv_finish {x : Res α} {answer : α → Response} (hx : x.Ends State.Inv)
    (h : running s (finish answer x) = .next t) : t.Inv :=
  ends_finish hx (fun _ _ _ ht => inv_of_part_eq ht rfl) h

/-! ### The branches of a write -/

theorem inv_jlpTurnOn (h : s.Inv) (hmode : s.params.jlpMode ≠ .disabled) : (jlpTurnOn s).Inv := by
  unfold jlpTurnOn
  split
  · exact h
  · exact inv_invalidateRange (inv_of_part_eq (inv_accelOn h hmode) rfl)

theorem inv_jlpTurnOff (h : s.Inv) : (jlpTurnOff s).Inv :=
  inv_invalidateRange (inv_of_part_eq (inv_accelOff h) rfl)

theorem inv_bankswitch (h : s.Inv) : (bankswitch a v s).Inv := by
  simp only [bankswitch]
  split
  · exact inv_invalidateRange (inv_of_part_eq h rfl)
  · exact h

theorem inv_pageFlip (h : s.Inv) : (pageFlip a v s).Inv := by
  simp only [pageFlip]
  split
  · exact inv_invalidateRange (inv_of_part_eq h rfl)
  · exact h

theorem inv_mapper (h : s.Inv) : (mapper a v s).Inv := by
  unfold mapper
  split
  · unfold setMap
    split
    · exact inv_invalidateRange (inv_of_part_eq h rfl)
    · exact inv_of_part_eq h rfl
  split
  · unfold setPerm
    split
    · exact inv_invalidateRange (inv_of_part_eq h rfl)
    · exact inv_of_part_eq h rfl
  · exact inv_of_part_eq h rfl

theorem ends_whenValid {P : State → Prop} {c : Check} {k : Nat → Res Unit} (hs : P s) (hk : ∀ n, (k n).Ends P) :
    (whenValid c s k).Ends P := by
  unfold whenValid
  split
  · exact ends_refuse
  · exact ends_ok hs
  · split
    · exact ends_refuse
    · exact hk _

theorem inv_drawSleep {least count : Nat} (hcount : 0 < count) (hle : least + count ≤ 1000) (h : s.Inv) :
    (drawSleep least count s).Inv := by
  have hsleep := (drawSleep_range least hcount s).2
  exact inv_of_part_eq (inv_sleep h (n := (drawSleep least count s).jlpSleep) (by omega)) rfl

theorem ends_copyToFlash {rw row count j : Nat} (h : s.Inv) : (copyToFlash rw row count j s).Ends State.Inv := by
  induction count generalizing j s with
  | zero => exact ends_ok h
  | succ count ih =>
    have hread : (ramRead (phys s (stagedAddress s j)) s).Ends State.Inv :=
      ⟨fun w u e => by obtain ⟨-, -, rfl⟩ := ramRead_eq_ok.mp e; exact h,
        fun r u e => by obtain ⟨-, -, rfl⟩ := ramRead_eq_raise.mp e; exact h⟩
    exact ends_andThen hread fun w u e => ih (inv_setFlashWord (hread.1 w u e))

theorem ends_copyToRam {rw row count j : Nat} (h : s.Inv) : (copyToRam rw row count j s).Ends State.Inv := by
  induction count generalizing j s with
  | zero => exact ends_ok h
  | succ count ih => exact ends_andThen (ends_ramWrite h) fun _ u e => ih (inv_ramWrite h e)

theorem ends_ramToFlash (h : s.Inv) : (ramToFlash s).Ends State.Inv :=
  have hs := inv_drawSleep (least := 400) (count := 200) (by decide) (by decide) h
  ends_whenValid hs fun _ => ends_ite (fun _ => ends_copyToFlash hs) fun _ => ends_ok hs

theorem ends_flashToRam (h : s.Inv) : (flashToRam s).Ends State.Inv :=
  have hs := inv_drawSleep (least := 10) (count := 20) (by decide) (by decide) h
  ends_whenValid hs fun _ => ends_andThen (ends_copyToRam hs) fun _ u e =>
    ends_ok (inv_invalidateRange ((ends_copyToRam hs).1 _ u e))

theorem ends_sectorErase (h : s.Inv) : (sectorErase s).Ends State.Inv :=
  have hs := inv_drawSleep (least := 800) (count := 200) (by decide) (by decide) h
  ends_whenValid hs fun _ => ends_ok <| inv_flash hs
    ⟨sorted_drop _ hs.tables.flash.1, fun e he => hs.tables.flash.2 e (mem_tableDrop.mp he).1⟩

theorem ends_jlpLock (h : s.Inv) : (jlpLock v s).Ends State.Inv := by
  unfold jlpLock
  split
  · exact ends_refuse
  · exact ends_ok (inv_jlpTurnOff h)
  · split
    · exact ends_ok (inv_jlpTurnOff h)
    · exact ends_ok h

theorem inv_writeJlpRegister (i : BitVec 4) (h : s.Inv) : (writeJlpRegister i v s).Inv := by
  unfold writeJlpRegister
  rw [muldiv_frame]
  exact inv_of_part_eq h rfl

theorem ends_jlpWrite (h : s.Inv) : (jlpWrite a v s).Ends State.Inv := by
  have hset {u : State} (hu : invPart u = invPart s) : u.Inv := inv_of_part_eq h hu
  unfold jlpWrite
  refine ends_ite (fun _ => ends_ok (hset rfl)) fun _ => ?_
  refine ends_ite (fun _ => ends_ok (hset rfl)) fun _ => ?_
  refine ends_ite (fun _ => ends_ite (fun _ => ends_ramToFlash h) fun _ => ends_ok h) fun _ => ?_
  refine ends_ite (fun _ => ends_ite (fun _ => ends_flashToRam h) fun _ => ends_ok h) fun _ => ?_
  refine ends_ite (fun _ => ends_ite (fun _ => ends_sectorErase h) fun _ => ends_ok h) fun _ => ?_
  refine ends_ite (fun _ => ends_jlpLock h) fun _ => ?_
  refine ends_ite (fun _ => ends_ok (inv_writeJlpRegister _ h)) fun _ => ?_
  refine ends_ite (fun _ => ends_ok ?_) fun _ => ?_
  · split
    · exact hset rfl
    · exact h
  exact ends_ite (fun _ => ends_ok (hset rfl)) fun _ => ends_ite (fun _ => ends_ok (hset rfl)) fun _ => ends_ok h

theorem mode_of_unlockMatches (h : unlockMatches a v s = true) : s.params.jlpMode ≠ .disabled := by
  simp only [unlockMatches, Bool.and_eq_true, bne_iff_ne] at h
  simp [h]

theorem ends_writeBranch (h : s.Inv) : (writeBranch a v s).Ends State.Inv := by
  unfold writeBranch
  refine ends_ite (fun _ => ends_ok (inv_bankswitch h)) fun _ => ?_
  refine ends_ite (fun _ => ends_jlpWrite h) fun _ => ?_
  refine ends_ite (fun hu => ends_ok (inv_jlpTurnOn h (mode_of_unlockMatches hu))) fun _ => ?_
  refine ends_ite (fun _ => ends_ok (inv_pageFlip h)) fun _ => ?_
  refine ends_ite (fun _ => ends_ok (inv_mapper h)) fun _ => ?_
  exact ends_ite (fun _ => ends_ramWrite h) fun _ => ends_ok h

theorem inv_shadowFrame (h : s.Inv) (hf : ShadowFrame s t) : t.Inv := by
  rw [hf]
  exact inv_of_part_eq h rfl

theorem ends_inv_busWrite (h : s.Inv) : (busWrite a v s).Ends State.Inv := by
  have hstall : (stall (mixRng a s)).Inv :=
    inv_of_part_eq (inv_sleep h (n := s.jlpSleep - 1) ((Nat.sub_le _ _).trans h.sleep)) rfl
  exact ends_busWrite (inv_invalidateWritten hstall) (fun t ht => inv_shadowFrame h ht)
    (fun t ht => ends_writeBranch (inv_shadowFrame h ht)) fun t ht => inv_invalidateWritten ht

/-! ### The step -/

theorem inv_resetBlock (h : s.Inv) : (resetBlock s).Inv := by
  have htables : (withResetTables s).Inv := inv_of_part_eq (inv_accelOff h) rfl
  have hmode : (withResetMode s).Inv := by
    unfold withResetMode
    split
    next hauto =>
      refine inv_jlpTurnOn htables ?_
      change s.params.jlpMode ≠ .disabled
      obtain hm | hm := autoEnabled_iff.mp hauto
      · rw [hm]; nofun
      · rw [hm]; nofun
    next => exact htables
  rw [resetBlock_eq]
  exact inv_invalidateRange (inv_of_part_eq hmode rfl)

theorem inv_runCrc {w p c : Nat} {f : BitVec w → BitVec w → BitVec w} (h : s.Inv) (hc : runCrc w p c f s = .next t) :
    t.Inv := by
  obtain ⟨-, hc⟩ := running_eq_next.mp hc
  split at hc
  · cases hc
    exact inv_of_part_eq h rfl
  · cases hc

theorem inv_execTick {n : Nat} (h : s.Inv) (ht : execTick n s = .next t) : t.Inv := by
  obtain ⟨-, ht⟩ := running_eq_next.mp ht
  split at ht
  · cases ht
  · cases ht
    exact inv_of_part_eq (inv_sleep h ((Nat.sub_le _ _).trans h.sleep)) rfl

theorem inv_runRequest {r : Request} (h : s.Inv) (hr : runRequest r s = .next t) : t.Inv := by
  cases r with
  | read a force => exact inv_finish (ends_of_fetches h (fetches_busRead a force)) hr
  | write a v => exact inv_finish (ends_inv_busWrite h) hr
  | decode a => exact inv_execDecode h hr
  | invalidate lo hi =>
    obtain ⟨-, hr⟩ := running_eq_next.mp hr
    cases hr
    exact inv_of_part_eq (inv_invalidateRange h) rfl
  | reset =>
    obtain ⟨-, hr⟩ := running_eq_next.mp hr
    cases hr
    exact inv_of_part_eq (inv_resetBlock h) rfl
  | tick n => exact inv_execTick h hr
  | crcByte dir w p c x =>
    cases dir with
    | right => exact inv_runCrc (f := fun p c => crcByteRight p c x) h hr
    | left => exact inv_runCrc (f := fun p c => crcByteLeft p c x) h hr
  | crcBlock dir w p c xs => exact inv_runCrc (f := fun p c => crcBlock dir p c xs) h hr
  | crc16Fold c v =>
    obtain ⟨-, hr⟩ := running_eq_next.mp hr
    cases hr
    exact inv_of_part_eq h rfl

/-- Settles O57: a step is idle or runs one request, and each request keeps the invariant. -/
theorem stepKeepsInvariant : Obligations.StepKeepsInvariant := by
  intro s t h hstep
  obtain ⟨-, rfl⟩ | ⟨r, rest, -, hr⟩ := step_eq_next_cases hstep
  · exact h
  · have hrest : ({ s with requests := rest } : State).Inv := inv_of_part_eq h rfl
    exact inv_runRequest hrest hr

end Sys2Proof.Machine
end

section
/-! Who writes the configuration, the reset tables, the page-flip table and the remembered pages (10_state.md R28, R30,
R32, R35, 43_locutus_bus.md R311, R313). -/

namespace Sys2Proof.Machine

variable {s t u : State} {a v : Word} {α : Type}

/-- The configuration, the tables that outlive a reset, and the remembered pages. -/
def configPart (s : State) : Params × BitVec 128 × BitVec 64 × Vector Word (2 ^ 8) × Vector (BitVec 4) (2 ^ 8) ×
    Vector (BitVec 12) (2 ^ 8) × Vector (BitVec 4) (2 ^ 8) × Vector (BitVec 4) (2 ^ 4) :=
  (s.params, s.featureFlags, s.uid, s.memMapRst, s.memPermRst, s.pflMap, s.pflPerm, s.bsel)

/-- The state keeps its configuration part. -/
def KeepsConfig (s t : State) : Prop := configPart t = configPart s

theorem KeepsConfig.trans (h : KeepsConfig s t) (h' : KeepsConfig t u) : KeepsConfig s u := Eq.trans h' h

/-- What a write to an address may change of the configuration part: the tables in their windows, and the remembered
page of the flipped chapter. -/
structure WriteConfig (a v : Word) (s t : State) : Prop where
  params : t.params = s.params
  featureFlags : t.featureFlags = s.featureFlags
  uid : t.uid = s.uid
  resetTables : ¬(0x1000 ≤ a.toNat ∧ a.toNat ≤ 0x13FF) → t.memMapRst = s.memMapRst ∧ t.memPermRst = s.memPermRst
  pageTables : ¬(0x1400 ≤ a.toNat ∧ a.toNat ≤ 0x14FF) → t.pflMap = s.pflMap ∧ t.pflPerm = s.pflPerm
  pages : t.bsel = s.bsel ∨ a.extractLsb' 0 12 = 0xFFF#12 ∧ v &&& s.params.pflSigMask = 0x0A50#16 ∧
    t.bsel = vecSet s.bsel (a.extractLsb' 12 4) (v.extractLsb' 0 4)

theorem writeConfig_of_keeps (h : KeepsConfig s t) : WriteConfig a v s t := by
  simp only [KeepsConfig, configPart, Prod.mk.injEq] at h
  obtain ⟨hparams, hflags, huid, hmap, hperm, hpfl, hpflPerm, hbsel⟩ := h
  exact ⟨hparams, hflags, huid, fun _ => ⟨hmap, hperm⟩, fun _ => ⟨hpfl, hpflPerm⟩, .inl hbsel⟩

theorem WriteConfig.keeps_right (h : WriteConfig a v s t) (h' : KeepsConfig t u) : WriteConfig a v s u := by
  simp only [KeepsConfig, configPart, Prod.mk.injEq] at h'
  obtain ⟨hparams, hflags, huid, hmap, hperm, hpfl, hpflPerm, hbsel⟩ := h'
  exact ⟨hparams.trans h.params, hflags.trans h.featureFlags, huid.trans h.uid,
    fun ha => by rw [hmap, hperm]; exact h.resetTables ha, fun ha => by rw [hpfl, hpflPerm]; exact h.pageTables ha,
    by rw [hbsel]; exact h.pages⟩

theorem WriteConfig.keeps_left (h : KeepsConfig s t) (h' : WriteConfig a v t u) : WriteConfig a v s u := by
  simp only [KeepsConfig, configPart, Prod.mk.injEq] at h
  obtain ⟨hparams, hflags, huid, hmap, hperm, hpfl, hpflPerm, hbsel⟩ := h
  exact ⟨h'.params.trans hparams, h'.featureFlags.trans hflags, h'.uid.trans huid,
    fun ha => by rw [← hmap, ← hperm]; exact h'.resetTables ha,
    fun ha => by rw [← hpfl, ← hpflPerm]; exact h'.pageTables ha, by rw [← hparams, ← hbsel]; exact h'.pages⟩

/-! ### The branches of a write -/

theorem ends_keeps_ramWrite {pa : Nat} {w : Word} (h : KeepsConfig u s) : (ramWrite pa w s).Ends (KeepsConfig u) :=
  ⟨fun _ t e => by obtain ⟨-, rfl⟩ := ramWrite_eq_ok.mp e; exact h,
    fun r t e => by obtain ⟨-, -, rfl⟩ := ramWrite_eq_raise.mp e; exact h⟩

theorem ends_keeps_copyToFlash {rw row count j : Nat} : (copyToFlash rw row count j s).Ends (KeepsConfig s) :=
  ⟨fun _ t e => by rw [copyToFlash_frame.1 _ e]; exact rfl, fun r t e => by rw [copyToFlash_frame.2.1 r e]; exact rfl⟩

theorem ends_keeps_copyToRam {rw row count j : Nat} : (copyToRam rw row count j s).Ends (KeepsConfig s) :=
  ⟨fun _ t e => by rw [copyToRam_frame.1 _ e]; exact rfl, fun r t e => by rw [copyToRam_frame.2.1 r e]; exact rfl⟩

theorem ends_keeps_jlpLock : (jlpLock v s).Ends (KeepsConfig s) := by
  unfold jlpLock
  split
  · exact ends_refuse
  · exact ends_ok rfl
  · split
    · exact ends_ok rfl
    · exact ends_ok rfl

theorem keeps_config_writeJlpRegister (i : BitVec 4) (v : Word) (s : State) : KeepsConfig s (writeJlpRegister i v s) := by
  unfold writeJlpRegister
  rw [muldiv_frame]
  exact rfl

theorem ends_keeps_ramToFlash : (ramToFlash s).Ends (KeepsConfig s) :=
  ends_whenValid rfl fun _ => ends_ite (fun _ => ends_imp ends_keeps_copyToFlash fun _ h => h) fun _ => ends_ok rfl

theorem ends_keeps_flashToRam : (flashToRam s).Ends (KeepsConfig s) :=
  ends_whenValid rfl fun _ =>
    have hcopy := ends_imp (P := KeepsConfig s) (ends_keeps_copyToRam (s := drawSleep 10 20 s)) fun _ h => h
    ends_andThen hcopy fun _ u e => ends_ok (hcopy.1 _ u e)

theorem ends_keeps_sectorErase : (sectorErase s).Ends (KeepsConfig s) := ends_whenValid rfl fun _ => ends_ok rfl

/-- The JLP's writes keep the configuration part. -/
theorem ends_keeps_jlpWrite : (jlpWrite a v s).Ends (KeepsConfig s) := by
  unfold jlpWrite
  refine ends_ite (fun _ => ends_ok rfl) fun _ => ?_
  refine ends_ite (fun _ => ends_ok rfl) fun _ => ?_
  refine ends_ite (fun _ => ends_ite (fun _ => ends_keeps_ramToFlash) fun _ => ends_ok rfl) fun _ => ?_
  refine ends_ite (fun _ => ends_ite (fun _ => ends_keeps_flashToRam) fun _ => ends_ok rfl) fun _ => ?_
  refine ends_ite (fun _ => ends_ite (fun _ => ends_keeps_sectorErase) fun _ => ends_ok rfl) fun _ => ?_
  refine ends_ite (fun _ => ends_keeps_jlpLock) fun _ => ?_
  refine ends_ite (fun _ => ends_ok (keeps_config_writeJlpRegister _ v s)) fun _ => ?_
  refine ends_ite (fun _ => ends_ok ?_) fun _ => ?_
  · split
    · exact rfl
    · exact rfl
  exact ends_ite (fun _ => ends_ok rfl) fun _ => ends_ite (fun _ => ends_ok rfl) fun _ => ends_ok rfl

/-- A page flip sets the remembered page of its chapter at most (43_locutus_bus.md R310, R311). -/
theorem writeConfig_pageFlip (h : pageFlipMatches a v s = true) : WriteConfig a v s (pageFlip a v s) := by
  simp only [pageFlipMatches, Bool.and_eq_true, beq_iff_eq] at h
  obtain ⟨⟨haddr, hsig⟩, -⟩ := h
  refine ⟨?_, ?_, ?_, fun _ => ?_, fun _ => ?_, ?_⟩
  · rw [pageFlip_frame]
  · rw [pageFlip_frame]
  · rw [pageFlip_frame]
  · rw [pageFlip_frame]; exact ⟨rfl, rfl⟩
  · rw [pageFlip_frame]; exact ⟨rfl, rfl⟩
  · simp only [pageFlip]
    split
    · exact .inr ⟨haddr, hsig, rfl⟩
    · exact .inl rfl

/-- The mapper sets the entries of its window's table (43_locutus_bus.md R313). -/
theorem writeConfig_mapper (h : mapperMatches a s = true) : WriteConfig a v s (mapper a v s) := by
  obtain ⟨-, ha, -⟩ := mapperMatches_iff.mp h
  have hmap : a ≤ 0x11FF#16 ↔ a.toNat ≤ 0x11FF := BitVec.le_def
  have hperm : a ≤ 0x13FF#16 ↔ a.toNat ≤ 0x13FF := BitVec.le_def
  refine ⟨?_, ?_, ?_, fun hout => ?_, fun hout => ?_, .inl ?_⟩
  · rw [mapper_frame]
  · rw [mapper_frame]
  · rw [mapper_frame]
  · rw [mapper, if_neg (by rw [hmap]; omega), if_neg (by rw [hperm]; omega)]
    exact ⟨rfl, rfl⟩
  · unfold mapper setMap setPerm
    split
    · split
      · exact ⟨rfl, rfl⟩
      · exact ⟨rfl, rfl⟩
    split
    · split
      · exact ⟨rfl, rfl⟩
      · exact ⟨rfl, rfl⟩
    next hhigh =>
      rw [hperm] at hhigh
      omega
  · rw [mapper_frame]

theorem ends_writeConfig_writeBranch : (writeBranch a v s).Ends (WriteConfig a v s) := by
  have hkeeps {t : State} (h : KeepsConfig s t) : WriteConfig a v s t := writeConfig_of_keeps h
  unfold writeBranch
  refine ends_ite (fun _ => ends_ok (hkeeps ?_)) fun _ => ?_
  · rw [bankswitch_frame]
    exact rfl
  refine ends_ite (fun _ => ends_imp ends_keeps_jlpWrite fun _ => hkeeps) fun _ => ?_
  refine ends_ite (fun _ => ends_ok (hkeeps ?_)) fun _ => ?_
  · rw [jlpTurnOn_frame]
    exact rfl
  refine ends_ite (fun h => ends_ok (writeConfig_pageFlip h)) fun _ => ?_
  refine ends_ite (fun h => ends_ok (writeConfig_mapper h)) fun _ => ?_
  exact ends_imp (ends_ite (fun _ => ends_keeps_ramWrite rfl) fun _ => ends_ok rfl) fun _ => hkeeps

theorem keepsConfig_shadowFrame (h : ShadowFrame s t) : KeepsConfig s t := by
  rw [h]
  exact rfl

theorem ends_writeConfig_busWrite : (busWrite a v s).Ends (WriteConfig a v s) :=
  ends_busWrite (writeConfig_of_keeps rfl) (fun _ h => writeConfig_of_keeps (keepsConfig_shadowFrame h))
    (fun _ h => ends_imp ends_writeConfig_writeBranch fun _ => WriteConfig.keeps_left (keepsConfig_shadowFrame h))
    fun _ h => h.keeps_right rfl

theorem writeConfig_writeTransaction (h : writeTransaction a v s = .next t) : WriteConfig a v s t :=
  ends_finish ends_writeConfig_busWrite (fun _ _ _ ht => ht.keeps_right rfl) h

/-! ### The other requests -/

theorem keepsConfig_fetchFrame (h : FetchFrame s t) : KeepsConfig s t := by
  rw [h.1]
  exact rfl

theorem keepsConfig_execDecode (h : execDecode a s = .next t) : KeepsConfig s t := by
  obtain ⟨u, hu, ht | ⟨f, r, -, -, rfl⟩⟩ := execDecode_cases h
  · rw [ht]
    exact (keepsConfig_fetchFrame hu).trans rfl
  · exact (keepsConfig_fetchFrame hu).trans rfl

theorem keepsConfig_readTransaction {force : Bool} (h : readTransaction a force s = .next t) : KeepsConfig s t :=
  have hread : (busRead a force s).Ends (KeepsConfig s) :=
    ⟨fun _ _ e => keepsConfig_fetchFrame ((fetches_busRead a force).1 _ _ e),
      fun _ _ e => keepsConfig_fetchFrame ((fetches_busRead a force).2.1 _ _ e)⟩
  ends_finish hread (fun _ _ _ ht => ht) h

theorem keepsConfig_execTick {n : Nat} (h : execTick n s = .next t) : KeepsConfig s t := by
  obtain ⟨-, h⟩ := running_eq_next.mp h
  split at h
  · cases h
  · cases h
    exact rfl

theorem keepsConfig_runCrc {w p c : Nat} {f : BitVec w → BitVec w → BitVec w} (h : runCrc w p c f s = .next t) :
    KeepsConfig s t := by
  obtain ⟨-, h⟩ := running_eq_next.mp h
  split at h
  · cases h
    exact rfl
  · cases h

/-- Only a write and a reset touch the configuration part. -/
theorem keepsConfig_runRequest {r : Request} (hw : ∀ a v, r ≠ .write a v) (hreset : r ≠ .reset)
    (h : runRequest r s = .next t) : KeepsConfig s t := by
  cases r with
  | read a force => exact keepsConfig_readTransaction h
  | write a v => exact absurd rfl (hw a v)
  | decode a => exact keepsConfig_execDecode h
  | invalidate lo hi =>
    obtain ⟨-, h⟩ := running_eq_next.mp h
    cases h
    exact rfl
  | reset => exact absurd rfl hreset
  | tick n => exact keepsConfig_execTick h
  | crcByte dir w p c x =>
    cases dir with
    | right => exact keepsConfig_runCrc (f := fun p c => crcByteRight p c x) h
    | left => exact keepsConfig_runCrc (f := fun p c => crcByteLeft p c x) h
  | crcBlock dir w p c xs => exact keepsConfig_runCrc (f := fun p c => crcBlock dir p c xs) h
  | crc16Fold c v =>
    obtain ⟨-, h⟩ := running_eq_next.mp h
    cases h
    exact rfl

/-- A reset keeps the configuration part but for the remembered pages, which it clears. -/
theorem configPart_execReset (h : execReset s = .next t) :
    KeepsConfig { s with bsel := Vector.replicate (2 ^ 4) 0#4 } t := by
  obtain ⟨-, h⟩ := running_eq_next.mp h
  cases h
  rw [resetBlock_eq, withResetMode_frame]
  exact rfl

/-! ### The step -/

/-- What a step does to the configuration part. -/
theorem step_config_cases (h : step s = .next t) :
    KeepsConfig s t ∨
    (∃ rest, s.requests = .reset :: rest ∧ KeepsConfig { s with bsel := Vector.replicate (2 ^ 4) 0#4 } t) ∨
    ∃ a v rest, s.requests = .write a v :: rest ∧ WriteConfig a v s t := by
  obtain ⟨-, rfl⟩ | ⟨r, rest, hq, hr⟩ := step_eq_next_cases h
  · exact .inl rfl
  have hqueue : KeepsConfig s { s with requests := rest } := rfl
  by_cases hw : ∃ a v, r = .write a v
  · obtain ⟨a, v, rfl⟩ := hw
    exact .inr (.inr ⟨a, v, rest, hq, (writeConfig_writeTransaction hr).keeps_left hqueue⟩)
  by_cases hreset : r = .reset
  · subst hreset
    exact .inr (.inl ⟨rest, hq, configPart_execReset (s := { s with requests := rest }) hr⟩)
  · exact .inl (hqueue.trans (keepsConfig_runRequest (fun a v e => hw ⟨a, v, e⟩) hreset hr))

/-- Settles O58: by what a step does to the configuration part. -/
theorem configurationIsKept : Obligations.ConfigurationIsKept := by
  intro s t h
  obtain hkeep | ⟨rest, -, hkeep⟩ | ⟨a, v, rest, hq, hw⟩ := step_config_cases h
  · have hall : WriteConfig 0#16 0#16 s t := writeConfig_of_keeps hkeep
    exact ⟨hall.params, hall.featureFlags, hall.uid, fun _ => hall.resetTables (by decide),
      fun _ => hall.pageTables (by decide)⟩
  · have hall : WriteConfig 0#16 0#16 _ t := writeConfig_of_keeps hkeep
    exact ⟨hall.params, hall.featureFlags, hall.uid, fun _ => hall.resetTables (by decide),
      fun _ => hall.pageTables (by decide)⟩
  · exact ⟨hw.params, hw.featureFlags, hw.uid, fun hout => hw.resetTables (hout a v rest hq),
      fun hout => hw.pageTables (hout a v rest hq)⟩

/-- Settles O59: by what a step does to the configuration part. -/
theorem rememberedPagesHaveTwoWriters : Obligations.RememberedPagesHaveTwoWriters := by
  intro s t h
  obtain hkeep | ⟨rest, hq, hkeep⟩ | ⟨a, v, rest, hq, hw⟩ := step_config_cases h
  · simp only [KeepsConfig, configPart, Prod.mk.injEq] at hkeep
    exact .inl hkeep.2.2.2.2.2.2.2
  · simp only [KeepsConfig, configPart, Prod.mk.injEq] at hkeep
    obtain ⟨-, -, -, -, -, -, -, hbsel⟩ := hkeep
    exact .inr (.inl ⟨rest, hq, fun c => by rw [hbsel, vecGet_replicate]⟩)
  · obtain hbsel | ⟨haddr, hsig, hbsel⟩ := hw.pages
    · exact .inl hbsel
    · exact .inr (.inr ⟨a, v, rest, hq, haddr, hsig, fun c => by rw [hbsel, vecGet_set_ite]⟩)

end Sys2Proof.Machine
end

section
/-! No operation reads or writes the uid (10_state.md R35): every part of the machine commutes with setting it. -/

namespace Sys2Proof.Machine

variable {s t u : State} {a v : Word} {α β : Type} {id : BitVec 64}

/-! ### Commuting with the uid -/

/-- The machine with another uid. -/
def withUid (id : BitVec 64) (s : State) : State := { s with uid := id }

/-- The same result with another uid. -/
def Res.withUid (id : BitVec 64) (x : Res α) : Res α :=
  match x with
  | .ok y s => .ok y (Machine.withUid id s)
  | .raise r s => .raise r (Machine.withUid id s)
  | .refuse r => .refuse r

/-- The same outcome with another uid. -/
def outcomeWithUid (id : BitVec 64) (o : Host.Outcome State Fault Refusal) : Host.Outcome State Fault Refusal :=
  match o with
  | .next s => .next (withUid id s)
  | .fault r => .fault r
  | .refused r => .refused r

theorem withUid_andThen {x : Res α} {k k' : α → State → Res β}
    (h : ∀ y t, k' y (withUid id t) = (k y t).withUid id) : (x.withUid id).andThen k' = (x.andThen k).withUid id := by
  cases x with
  | ok y t => exact h y t
  | raise r t => rfl
  | refuse r => rfl

theorem withUid_ite {c : Prop} [Decidable c] {x y x' y' : Res α} (hx : x' = x.withUid id) (hy : y' = y.withUid id) :
    (if c then x' else y') = (if c then x else y).withUid id := by
  rw [hx, hy]
  split <;> rfl

theorem withUid_ite_state {c : Prop} [Decidable c] {x y x' y' : State} (hx : x' = withUid id x)
    (hy : y' = withUid id y) : (if c then x' else y') = withUid id (if c then x else y) := by
  rw [hx, hy]
  split <;> rfl

theorem withUid_ite_outcome {c : Prop} [Decidable c] {x y x' y' : Host.Outcome State Fault Refusal}
    (hx : x' = outcomeWithUid id x) (hy : y' = outcomeWithUid id y) :
    (if c then x' else y') = outcomeWithUid id (if c then x else y) := by
  rw [hx, hy]
  split <;> rfl

theorem withUid_finish (answer : α → Response) (x : Res α) :
    finish answer (x.withUid id) = outcomeWithUid id (finish answer x) := by
  cases x <;> rfl

theorem withUid_running {k k' : Host.Outcome State Fault Refusal} (h : k' = outcomeWithUid id k) (s : State) :
    running (withUid id s) k' = outcomeWithUid id (running s k) := by
  cases hs : s.fault with
  | none => rw [running_of_ok hs, running_of_ok (show (withUid id s).fault = none from hs), h]
  | some r => rw [running_of_fault hs, running_of_fault (show (withUid id s).fault = some r from hs)]; rfl

/-! ### Reads -/

theorem ramRead_withUid (pa : Nat) (s : State) : ramRead pa (withUid id s) = (ramRead pa s).withUid id :=
  withUid_ite rfl rfl

theorem ramWrite_withUid (pa : Nat) (v : Word) (s : State) :
    ramWrite pa v (withUid id s) = (ramWrite pa v s).withUid id :=
  withUid_ite rfl rfl

theorem jlpRead_withUid (a : Word) (s : State) : jlpRead a (withUid id s) = (jlpRead a s).withUid id :=
  withUid_ite rfl <| withUid_ite rfl <| withUid_ite rfl <| withUid_ite rfl rfl

theorem busRead_withUid (a : Word) (force : Bool) (s : State) :
    busRead a force (withUid id s) = (busRead a force s).withUid id :=
  withUid_ite rfl <| withUid_ite rfl <| withUid_ite (jlpRead_withUid a (mixRng a s)) <|
    withUid_ite (ramRead_withUid _ (mixRng a s)) rfl

/-! ### Writes -/

theorem pvShadow_withUid (a : Word) (s : State) : pvShadow a (withUid id s) = (pvShadow a s).withUid id :=
  withUid_ite ((congrArg (Res.andThen · _) (ramRead_withUid _ s)).trans (withUid_andThen fun _ _ => rfl)) rfl

theorem bankswitch_withUid (a v : Word) (s : State) : bankswitch a v (withUid id s) = withUid id (bankswitch a v s) := by
  unfold bankswitch
  exact withUid_ite_state rfl rfl

theorem pageFlip_withUid (a v : Word) (s : State) : pageFlip a v (withUid id s) = withUid id (pageFlip a v s) := by
  unfold pageFlip
  exact withUid_ite_state rfl rfl

theorem jlpTurnOn_withUid (s : State) : jlpTurnOn (withUid id s) = withUid id (jlpTurnOn s) :=
  withUid_ite_state rfl rfl

theorem setMap_withUid (copy : MapCopy) (p : BitVec 8) (v : Word) (s : State) :
    setMap copy p v (withUid id s) = withUid id (setMap copy p v s) := by
  cases copy <;> rfl

theorem setPerm_withUid (copy : MapCopy) (p : BitVec 8) (q : BitVec 4) (s : State) :
    setPerm copy p q (withUid id s) = withUid id (setPerm copy p q s) := by
  cases copy <;> rfl

theorem mapper_withUid (a v : Word) (s : State) : mapper a v (withUid id s) = withUid id (mapper a v s) := by
  unfold mapper
  exact withUid_ite_state (setMap_withUid _ _ _ s) <| withUid_ite_state (setPerm_withUid _ _ _ s) rfl

theorem muldiv_withUid (k : BitVec 3) (s : State) : muldiv k (withUid id s) = withUid id (muldiv k s) := by
  simp only [muldiv]
  split
  case h_5 => exact withUid_ite_state rfl rfl
  case h_6 => exact withUid_ite_state rfl rfl
  all_goals rfl

theorem whenValid_withUid {c : Check} {k k' : Nat → Res Unit} (h : ∀ n, k' n = (k n).withUid id) (s : State) :
    whenValid c (withUid id s) k' = (whenValid c s k).withUid id := by
  rcases c with p | _ | _
  · rfl
  · rfl
  · cases hn : s.params.flashRowWords with
    | none => rw [whenValid_true_none hn, whenValid_true_none (s := withUid id s) hn]; rfl
    | some n => rw [whenValid_true hn, whenValid_true (s := withUid id s) hn, h]

theorem copyToFlash_withUid (rw row count j : Nat) (s : State) :
    copyToFlash rw row count j (withUid id s) = (copyToFlash rw row count j s).withUid id := by
  induction count generalizing j s with
  | zero => rfl
  | succ count ih =>
    exact (congrArg (Res.andThen · _) (ramRead_withUid _ s)).trans (withUid_andThen fun w t => ih (j + 1) (setFlashWord rw row j w t))

theorem copyToRam_withUid (rw row count j : Nat) (s : State) :
    copyToRam rw row count j (withUid id s) = (copyToRam rw row count j s).withUid id := by
  induction count generalizing j s with
  | zero => rfl
  | succ count ih =>
    exact (congrArg (Res.andThen · _) (ramWrite_withUid _ _ s)).trans (withUid_andThen fun _ t => ih (j + 1) t)

theorem ramToFlash_withUid (s : State) : ramToFlash (withUid id s) = (ramToFlash s).withUid id := by
  unfold ramToFlash
  refine whenValid_withUid (fun n => ?_) (drawSleep 400 200 s)
  exact withUid_ite (copyToFlash_withUid n _ n 0 (drawSleep 400 200 s)) rfl

theorem flashToRam_withUid (s : State) : flashToRam (withUid id s) = (flashToRam s).withUid id := by
  unfold flashToRam
  exact whenValid_withUid
    (fun n => (congrArg (Res.andThen · _) (copyToRam_withUid n _ n 0 (drawSleep 10 20 s))).trans
      (withUid_andThen fun _ _ => rfl)) (drawSleep 10 20 s)

theorem sectorErase_withUid (s : State) : sectorErase (withUid id s) = (sectorErase s).withUid id := by
  unfold sectorErase
  refine whenValid_withUid (fun n => ?_) (drawSleep 800 200 s)
  rfl

theorem jlpLock_withUid (v : Word) (s : State) : jlpLock v (withUid id s) = (jlpLock v s).withUid id := by
  cases hlock : s.params.jlpLockValue with
  | none => rw [jlpLock_of_none hlock, jlpLock_of_none (s := withUid id s) hlock]; rfl
  | some w =>
    rw [jlpLock_of_some hlock, jlpLock_of_some (s := withUid id s) hlock]
    exact congrArg (Res.ok ()) (withUid_ite_state rfl rfl)

theorem writeJlpRegister_withUid (i : BitVec 4) (v : Word) (s : State) :
    writeJlpRegister i v (withUid id s) = withUid id (writeJlpRegister i v s) :=
  muldiv_withUid _ (setJlpRegister i v s)

theorem jlpWrite_withUid (a v : Word) (s : State) : jlpWrite a v (withUid id s) = (jlpWrite a v s).withUid id := by
  unfold jlpWrite
  refine withUid_ite rfl <| withUid_ite rfl ?_
  refine withUid_ite (withUid_ite (ramToFlash_withUid s) rfl) ?_
  refine withUid_ite (withUid_ite (flashToRam_withUid s) rfl) ?_
  refine withUid_ite (withUid_ite (sectorErase_withUid s) rfl) ?_
  refine withUid_ite (jlpLock_withUid v s) ?_
  refine withUid_ite (congrArg (Res.ok ()) (writeJlpRegister_withUid _ v s)) ?_
  refine withUid_ite (congrArg (Res.ok ()) (withUid_ite_state rfl rfl)) ?_
  exact withUid_ite rfl <| withUid_ite rfl rfl

theorem ramStore_withUid (a v : Word) (s : State) : ramStore a v (withUid id s) = (ramStore a v s).withUid id :=
  withUid_ite (ramWrite_withUid _ _ s) rfl

theorem writeBranch_withUid (a v : Word) (s : State) :
    writeBranch a v (withUid id s) = (writeBranch a v s).withUid id := by
  unfold writeBranch
  refine withUid_ite (congrArg (Res.ok ()) (bankswitch_withUid a v s)) ?_
  refine withUid_ite (jlpWrite_withUid a v s) ?_
  refine withUid_ite (congrArg (Res.ok ()) (jlpTurnOn_withUid s)) ?_
  refine withUid_ite (congrArg (Res.ok ()) (pageFlip_withUid a v s)) ?_
  exact withUid_ite (congrArg (Res.ok ()) (mapper_withUid a v s)) (ramStore_withUid a v s)

theorem busWrite_withUid (a v : Word) (s : State) : busWrite a v (withUid id s) = (busWrite a v s).withUid id :=
  withUid_ite rfl <| (congrArg (Res.andThen · _) (pvShadow_withUid a (mixRng a s))).trans <|
    withUid_andThen fun _ t => (congrArg (Res.andThen · _) (writeBranch_withUid a v t)).trans <|
      withUid_andThen fun _ _ => rfl

/-! ### Decodes -/

theorem fetchRest_withUid (a : Word) (n : Nat) (s : State) :
    fetchRest a n (withUid id s) = (fetchRest a n s).withUid id :=
  withUid_ite rfl <| (congrArg (Res.andThen · _) (busRead_withUid _ _ s)).trans <| withUid_andThen fun _ t =>
    withUid_ite rfl <| (congrArg (Res.andThen · _) (busRead_withUid _ _ t)).trans <| withUid_andThen fun _ _ => rfl

theorem fetchWords_withUid (a : Word) (s : State) : fetchWords a (withUid id s) = (fetchWords a s).withUid id :=
  (congrArg (Res.andThen · _) (busRead_withUid a false s)).trans <| withUid_andThen fun _ t =>
    withUid_ite (withUid_ite rfl rfl) <| (congrArg (Res.andThen · _) (busRead_withUid _ _ t)).trans <|
      withUid_andThen fun _ x => (congrArg (Res.andThen · _) (fetchRest_withUid a _ x)).trans <|
        withUid_andThen fun _ _ => rfl

theorem decodeMiss_withUid (a : Word) (s : State) : decodeMiss a (withUid id s) = outcomeWithUid id (decodeMiss a s) := by
  rw [decodeMiss, decodeMiss, fetchWords_withUid]
  rcases fetchWords a s with ⟨_ | f, t⟩ | ⟨r, t⟩ | r
  · rfl
  · cases hr : recordOfWords f with
    | none => simp only [Res.withUid, hr]; rfl
    | some r => simp only [Res.withUid, hr]; rfl
  · rfl
  · rfl

theorem execDecode_withUid (a : Word) (s : State) :
    execDecode a (withUid id s) = outcomeWithUid id (execDecode a s) := by
  refine withUid_running ?_ s
  cases hc : cached s a with
  | none =>
    rw [show cached (withUid id s) a = none from hc]
    exact decodeMiss_withUid a s
  | some r =>
    rw [show cached (withUid id s) a = some r from hc]
    exact withUid_ite_outcome rfl rfl

/-! ### Every instruction -/

theorem execTick_withUid (n : Nat) (s : State) : execTick n (withUid id s) = outcomeWithUid id (execTick n s) := by
  cases hs : s.fault with
  | some r =>
    exact (running_of_fault (s := withUid id s) hs _).trans
      (congrArg (outcomeWithUid id) (running_of_fault hs _)).symm
  | none =>
    cases hd : s.params.tickDecrement with
    | none => rw [execTick_none hs hd, execTick_none (s := withUid id s) hs hd]; rfl
    | some d => rw [execTick_some hs hd, execTick_some (s := withUid id s) hs hd]; rfl

theorem resetBlock_withUid (s : State) : resetBlock (withUid id s) = withUid id (resetBlock s) := by
  have hmode : withResetMode (withUid id s) = withUid id (withResetMode s) := by
    unfold withResetMode
    rw [apply_ite (withUid id), ← jlpTurnOn_withUid]
    rfl
  rw [resetBlock_eq, resetBlock_eq, hmode]
  rfl

theorem runCrc_withUid (w p c : Nat) (f : BitVec w → BitVec w → BitVec w) (s : State) :
    runCrc w p c f (withUid id s) = outcomeWithUid id (runCrc w p c f s) := by
  refine withUid_running ?_ s
  exact withUid_ite_outcome rfl rfl

theorem runRequest_withUid (r : Request) (s : State) :
    runRequest r (withUid id s) = outcomeWithUid id (runRequest r s) := by
  cases r with
  | read a force =>
    exact withUid_running ((congrArg _ (busRead_withUid a force s)).trans (withUid_finish _ _)) s
  | write a v => exact withUid_running ((congrArg _ (busWrite_withUid a v s)).trans (withUid_finish _ _)) s
  | decode a => exact execDecode_withUid a s
  | invalidate lo hi =>
    refine withUid_running (k := .next { invalidateRange lo hi s with response := .done }) ?_ s
    rfl
  | reset =>
    refine withUid_running (k := .next { resetBlock s with response := .done }) ?_ s
    exact congrArg (fun t : State => Host.Outcome.next { t with response := .done }) (resetBlock_withUid s)
  | tick n => exact execTick_withUid n s
  | crcByte dir w p c x =>
    cases dir with
    | right => exact runCrc_withUid w p c (fun p c => crcByteRight p c x) s
    | left => exact runCrc_withUid w p c (fun p c => crcByteLeft p c x) s
  | crcBlock dir w p c xs => exact runCrc_withUid w p c (fun p c => crcBlock dir p c xs) s
  | crc16Fold c v =>
    refine withUid_running (k := .next { s with response := .crc (crc16Fold c v).toNat }) ?_ s
    rfl

/-- An instruction word commits a record, a row is its request. -/
theorem exec_withUid (i : Instr) (s : State) : exec i (withUid id s) = outcomeWithUid id (exec i s) := by
  obtain h | ⟨r, hr⟩ := exists_record_or_request i
  · obtain ⟨r, hr⟩ := h s.fetch
    rw [exec_of_recordOf hr, exec_of_recordOf (s := withUid id s) hr]
    refine withUid_running (k := .next (commitRecord r s)) ?_ s
    rfl
  · rw [exec_of_encodeRequest hr, exec_of_encodeRequest hr]
    exact runRequest_withUid r s

/-- Settles O60: every instruction commutes with setting the uid. -/
theorem uidIsNeverRead : Obligations.UidIsNeverRead := by
  intro i s u
  refine (exec_withUid (id := u) i s).trans ?_
  cases exec i s with
  | next t => rfl
  | fault r => rfl
  | refused r => rfl

end Sys2Proof.Machine
end
